-- ==== Sys2Proof/Word.lean ====
section
/-! DEFINITION. The two widths of the core (spec 00_scope R6, R8): 8 data bits and 16 address bits. -/

namespace Sys2Proof

/-- A byte: A, X, Y, S, P and every memory cell (spec 00_scope R6). -/
abbrev Byte := BitVec 8

/-- A 16-bit word: PC and every address the CPU computes (spec 00_scope R6). -/
abbrev Word := BitVec 16

end Sys2Proof
end

