-- ==== Sys2Proof/Config.lean ====
section
/-! DEFINITION. The parameters of spec 00_scope R7 as plain data, the two Bus maps the spec gives, and the one
free value of the spec, `PERIPH_READ`. -/

namespace Sys2Proof

/-- PERIPH_READ (spec 20_memory R62): the byte the `n`-th peripheral register read of a run returns.  It has no
body, so nothing can be proved about its value (log entry 4). -/
opaque Config.periphRead : Nat → Byte

/-- RAM_INIT (spec 70_reset_and_hazards R292): the byte an unlisted Memory cell reads as.
DESIGN CHOICE, unsafe (log entry 3): the spec leaves it open. -/
def unlistedByte : Byte := 0x00

/-- What a range of masked addresses resolves to, with its local-offset transform (spec 20_memory R53).  The rule leaves
the transforms open ("typically masking or subtracting a base"); DESIGN CHOICE (log entry 23): both, for a Memory and for
a peripheral, in this order: the base is subtracted, then a mask is applied. -/
inductive Target where
  /-- Memory number `k`; the local offset of the masked address `a` is `(a - base) & mask`. -/
  | memory (k : Nat) (base mask : Word)
  /-- Peripheral number `k`; the local address of a read of the masked address `a` is `(a - base) & readMask`, of a write
  `(a - base) & writeMask`. -/
  | peripheral (k : Nat) (base readMask writeMask : Word)
  /-- The fallback range (spec 20_memory R55). -/
  | fallback
deriving DecidableEq, Repr

/-- One range of the Bus map, found by testing address lines (spec 20_memory R53): it holds the masked addresses
`a` with `a & lines = value`. -/
structure BusRange where
  lines : Word
  value : Word
  target : Target
deriving DecidableEq, Repr

/-- UNSTABLE_POLICY (spec 47_illegal R255): what the eight unstable slots do. -/
inductive UnstablePolicy where
  | nop
  | refuse
deriving DecidableEq, Repr

/-- The parameters of spec 00_scope R7 that are fixed for one machine.  They are data of the state, so that a
claim may be made of every configuration at once; no step writes them (log entry 1). -/
structure Config where
  /-- ADDR_MASK: the address lines the Bus keeps (spec 20_memory R52). -/
  addrMask : Word
  /-- BUS_MAP: the ranges, first match wins (spec 20_memory R53, R66). -/
  busMap : List BusRange
  /-- FALLBACK_BYTE (spec 20_memory R55). -/
  fallbackByte : Byte
  /-- HAS_IRQ (spec 60_exceptions R272). -/
  hasIrq : Bool
  /-- UNSTABLE_POLICY (spec 47_illegal R255). -/
  unstablePolicy : UnstablePolicy
  /-- JAM_CYCLES (spec 40_addressing_modes R129). -/
  jamCycles : Nat
  /-- IRQ_CYCLES (spec 60_exceptions R272). -/
  irqCycles : Nat
  /-- TICKS_PER_CYCLE of each peripheral, in the Bus's order (spec 60_exceptions R279). -/
  ticksPerCycle : List Nat
  /-- ENUM_ORDER: the Memory numbers in the order `enumMemory` gives them (spec 20_memory R59). -/
  enumOrder : List Nat
deriving DecidableEq, Repr

/-- The console's Bus map (spec 20_memory R60).  Memory 0 is the cartridge ROM, memory 1 the RAM; peripheral 0 is
the video/sound chip, peripheral 1 the I/O-timer chip. -/
def consoleMap : List BusRange :=
  [⟨0x1000, 0x1000, .memory 0 0x0000 0x0FFF⟩,
   ⟨0x1080, 0x0000, .peripheral 0 0x0000 0x000F 0x003F⟩,
   ⟨0x1280, 0x0080, .memory 1 0x0000 0x007F⟩,
   ⟨0x1280, 0x0280, .peripheral 1 0x0000 0x007F 0x007F⟩]

/-- The default configuration, the console (spec 00_scope R7).  The order of `enumOrder` is a DESIGN CHOICE
(log entry 11); the spec leaves it open. -/
def Config.console : Config where
  addrMask := 0x1FFF
  busMap := consoleMap
  fallbackByte := 0xFF
  hasIrq := false
  unstablePolicy := .nop
  jamCycles := 2
  irqCycles := 7
  ticksPerCycle := [3, 1]
  enumOrder := [0, 1]

/-- The flat test bus (spec 20_memory R61): one writable Memory of 65536 cells, no mask, no peripheral. -/
def Config.flat : Config where
  addrMask := 0xFFFF
  busMap := [⟨0x0000, 0x0000, .memory 0 0x0000 0xFFFF⟩]
  fallbackByte := 0xFF
  hasIrq := false
  unstablePolicy := .nop
  jamCycles := 2
  irqCycles := 7
  ticksPerCycle := []
  enumOrder := [0]

end Sys2Proof
end

