-- ==== Sys2Proof/Syntax.lean ====
section
/-! DEFINITION. The instructions of the core (spec 30_encoding R90 to R96): the addressing modes with their
operands, and `Instr`, one constructor per row of spec/opcode_table.json. -/

namespace Sys2Proof

/-- The addressing modes that give an effective address (spec 40_addressing_modes R116 to R123), each with the
operand bytes it consumes: `n` is operand8, `nn` is operand16 (spec 30_encoding R93). -/
inductive AddrMode where
  | zeroPage (n : Byte)
  | zeroPageX (n : Byte)
  | zeroPageY (n : Byte)
  | absolute (nn : Word)
  | absoluteX (nn : Word)
  | absoluteY (nn : Word)
  | indexedIndirect (n : Byte)
  | indirectIndexed (n : Byte)
deriving DecidableEq, Repr

/-- Where a reading instruction takes its operand byte from (spec 40_addressing_modes R130): the immediate byte
of the instruction (R115), or the byte at an effective address. -/
inductive Source where
  | immediate (n : Byte)
  | memory (m : AddrMode)
deriving DecidableEq, Repr

/-- What a shift, rotate, increment or decrement modifies (spec 40_addressing_modes R130): the accumulator (R114),
or the byte at an effective address. -/
inductive Dest where
  | accumulator
  | memory (m : AddrMode)
deriving DecidableEq, Repr

/-- The 256 instructions, one constructor per row of spec/opcode_table.json.  A constructor is named after its
mnemonic and its mode; a row that shares both with another row carries its opcode byte in its name.  An argument
is the operand the instruction stream holds: `n` operand8, `nn` operand16, `d` disp8, `ptr` the pointer of
JMP indirect.  A byte of the instruction that the core never reads (the signature byte of BRK, R223; the
immediate byte of the undocumented NOPs, R253, and of ANE and LXA, R255) is no argument (log entry 6). -/
inductive Instr where
  -- Loads, stores and register transfers (41_load_store_transfer)
  | ldaIndX (n : Byte) | ldaZp (n : Byte) | ldaImm (n : Byte) | ldaAbs (nn : Word) | ldaIndY (n : Byte)
  | ldaZpX (n : Byte) | ldaAbsY (nn : Word) | ldaAbsX (nn : Word)
  | ldxImm (n : Byte) | ldxZp (n : Byte) | ldxAbs (nn : Word) | ldxZpY (n : Byte) | ldxAbsY (nn : Word)
  | ldyImm (n : Byte) | ldyZp (n : Byte) | ldyAbs (nn : Word) | ldyZpX (n : Byte) | ldyAbsX (nn : Word)
  | staIndX (n : Byte) | staZp (n : Byte) | staAbs (nn : Word) | staIndY (n : Byte) | staZpX (n : Byte)
  | staAbsY (nn : Word) | staAbsX (nn : Word)
  | stxZp (n : Byte) | stxAbs (nn : Word) | stxZpY (n : Byte)
  | styZp (n : Byte) | styAbs (nn : Word) | styZpX (n : Byte)
  | tax
  | tay
  | txa
  | tya
  | tsx
  | txs
  -- Stack (42_stack)
  | pha
  | php
  | pla
  | plp
  -- ALU (43_alu)
  | adcIndX (n : Byte) | adcZp (n : Byte) | adcImm (n : Byte) | adcAbs (nn : Word) | adcIndY (n : Byte)
  | adcZpX (n : Byte) | adcAbsY (nn : Word) | adcAbsX (nn : Word)
  | sbcIndX (n : Byte) | sbcZp (n : Byte) | sbcImm (n : Byte) | sbcAbs (nn : Word) | sbcIndY (n : Byte)
  | sbcZpX (n : Byte) | sbcAbsY (nn : Word) | sbcAbsX (nn : Word)
  | andIndX (n : Byte) | andZp (n : Byte) | andImm (n : Byte) | andAbs (nn : Word) | andIndY (n : Byte)
  | andZpX (n : Byte) | andAbsY (nn : Word) | andAbsX (nn : Word)
  | oraIndX (n : Byte) | oraZp (n : Byte) | oraImm (n : Byte) | oraAbs (nn : Word) | oraIndY (n : Byte)
  | oraZpX (n : Byte) | oraAbsY (nn : Word) | oraAbsX (nn : Word)
  | eorIndX (n : Byte) | eorZp (n : Byte) | eorImm (n : Byte) | eorAbs (nn : Word) | eorIndY (n : Byte)
  | eorZpX (n : Byte) | eorAbsY (nn : Word) | eorAbsX (nn : Word)
  | cmpIndX (n : Byte) | cmpZp (n : Byte) | cmpImm (n : Byte) | cmpAbs (nn : Word) | cmpIndY (n : Byte)
  | cmpZpX (n : Byte) | cmpAbsY (nn : Word) | cmpAbsX (nn : Word)
  | cpxImm (n : Byte) | cpxZp (n : Byte) | cpxAbs (nn : Word)
  | cpyImm (n : Byte) | cpyZp (n : Byte) | cpyAbs (nn : Word)
  | bitZp (n : Byte) | bitAbs (nn : Word)
  | incZp (n : Byte) | incAbs (nn : Word) | incZpX (n : Byte) | incAbsX (nn : Word)
  | decZp (n : Byte) | decAbs (nn : Word) | decZpX (n : Byte) | decAbsX (nn : Word)
  | inx
  | iny
  | dex
  | dey
  -- Shifts and rotates (44_shift_rotate)
  | aslZp (n : Byte) | aslAcc | aslAbs (nn : Word) | aslZpX (n : Byte) | aslAbsX (nn : Word)
  | lsrZp (n : Byte) | lsrAcc | lsrAbs (nn : Word) | lsrZpX (n : Byte) | lsrAbsX (nn : Word)
  | rolZp (n : Byte) | rolAcc | rolAbs (nn : Word) | rolZpX (n : Byte) | rolAbsX (nn : Word)
  | rorZp (n : Byte) | rorAcc | rorAbs (nn : Word) | rorZpX (n : Byte) | rorAbsX (nn : Word)
  -- Control transfer (45_control)
  | jmpAbs (nn : Word) | jmpInd (ptr : Word)
  | jsr (nn : Word)
  | rts
  | bpl (d : Byte)
  | bmi (d : Byte)
  | bvc (d : Byte)
  | bvs (d : Byte)
  | bcc (d : Byte)
  | bcs (d : Byte)
  | bne (d : Byte)
  | beq (d : Byte)
  | brk
  | rti
  -- Flag instructions and NOP (46_flags_nop)
  | clc
  | sec
  | cli
  | sei
  | cld
  | sed
  | clv
  | nop
  -- Undocumented opcodes, JAM and unstable slots (47_illegal)
  | sloIndX (n : Byte) | sloZp (n : Byte) | sloAbs (nn : Word) | sloIndY (n : Byte) | sloZpX (n : Byte)
  | sloAbsY (nn : Word) | sloAbsX (nn : Word)
  | rlaIndX (n : Byte) | rlaZp (n : Byte) | rlaAbs (nn : Word) | rlaIndY (n : Byte) | rlaZpX (n : Byte)
  | rlaAbsY (nn : Word) | rlaAbsX (nn : Word)
  | sreIndX (n : Byte) | sreZp (n : Byte) | sreAbs (nn : Word) | sreIndY (n : Byte) | sreZpX (n : Byte)
  | sreAbsY (nn : Word) | sreAbsX (nn : Word)
  | rraIndX (n : Byte) | rraZp (n : Byte) | rraAbs (nn : Word) | rraIndY (n : Byte) | rraZpX (n : Byte)
  | rraAbsY (nn : Word) | rraAbsX (nn : Word)
  | dcpIndX (n : Byte) | dcpZp (n : Byte) | dcpAbs (nn : Word) | dcpIndY (n : Byte) | dcpZpX (n : Byte)
  | dcpAbsY (nn : Word) | dcpAbsX (nn : Word)
  | iscIndX (n : Byte) | iscZp (n : Byte) | iscAbs (nn : Word) | iscIndY (n : Byte) | iscZpX (n : Byte)
  | iscAbsY (nn : Word) | iscAbsX (nn : Word)
  | saxIndX (n : Byte) | saxZp (n : Byte) | saxAbs (nn : Word) | saxZpY (n : Byte)
  | laxIndX (n : Byte) | laxZp (n : Byte) | laxAbs (nn : Word) | laxIndY (n : Byte) | laxZpY (n : Byte)
  | laxAbsY (nn : Word)
  | anc0B (n : Byte) | anc2B (n : Byte)
  | alr (n : Byte)
  | arr (n : Byte)
  | sbx (n : Byte)
  | usbc (n : Byte)
  | shaIndY (n : Byte) | shaAbsY (nn : Word)
  | tas (nn : Word)
  | shy (nn : Word)
  | shx (nn : Word)
  | las (nn : Word)
  | ane
  | lxa
  | nop04 (n : Byte) | nop0C (nn : Word) | nop14 (n : Byte) | nop1C (nn : Word) | nop34 (n : Byte)
  | nop3C (nn : Word) | nop44 (n : Byte) | nop54 (n : Byte) | nop5C (nn : Word) | nop64 (n : Byte)
  | nop74 (n : Byte) | nop7C (nn : Word) | nopD4 (n : Byte) | nopDC (nn : Word) | nopF4 (n : Byte)
  | nopFC (nn : Word) | nop1A | nop3A | nop5A | nop7A | nop80 | nop82 | nop89 | nopC2 | nopDA | nopE2 | nopFA
  | jam02 | jam12 | jam22 | jam32 | jam42 | jam52 | jam62 | jam72 | jam92 | jamB2 | jamD2 | jamF2
deriving DecidableEq, Repr

end Sys2Proof
end

