-- ==== Sys2Proof/Machine/State.lean ====
section
/-! DEFINITION. The state of the machine: the CPU's registers and hidden state (spec 10_state), the Memories and
peripherals behind the Bus (spec 20_memory), the Computer's cycle count (spec 60_exceptions R279), and the reasons
a step can stop. -/

namespace Sys2Proof.Machine

/-- The stored flags of the status register P (spec 10_state R26, R29).  Bit 5 of P reads 1 at all times (R27), so
it is not stored: `Status.toByte` gives it. -/
structure Status where
  /-- Negative, bit 7. -/
  n : Bool
  /-- Overflow, bit 6. -/
  v : Bool
  /-- Break, bit 4: stored, and read by no instruction (R28). -/
  b : Bool
  /-- Decimal, bit 3. -/
  d : Bool
  /-- IRQ-disable, bit 2. -/
  i : Bool
  /-- Zero, bit 1. -/
  z : Bool
  /-- Carry, bit 0. -/
  c : Bool
deriving DecidableEq, Repr

/-- The name `enumMemory` gives a Memory (spec 20_memory R59). -/
inductive MemoryName where
  | cartridgeRom
  | ram
  | flatRam
  | other (n : Nat)
deriving DecidableEq, Repr

/-- A Memory (spec 20_memory R63): fixed capacity, one byte per cell.  `cells` lists the cells by rising index and
lists none that holds `unlistedByte` (`Memory.wf`).  `readOnly` is the Bus's property of the cartridge ROM (R57);
`observers` are the registered write-observers in registration order (R65). -/
structure Memory where
  name : MemoryName
  cap : Nat
  readOnly : Bool
  cells : List Host.Cell
  observers : List Nat
deriving DecidableEq, Repr

/-- One register access the Bus delivered to a peripheral (spec 20_memory R62). -/
inductive PeriphAccess where
  | read (off : Nat)
  | write (off : Nat) (v : Byte)
deriving DecidableEq, Repr

/-- What crossed the boundary of a peripheral, whose inside is out of scope (spec 00_scope R4, 20_memory R62): the
ticks it received and the accesses delivered to it, newest first (log entry 5). -/
structure Peripheral where
  ticks : Nat
  accesses : List PeriphAccess
deriving DecidableEq, Repr

/-- One notification of a write-observer (spec 20_memory R65): the Memory's number, the observer, and the index and
value it received. -/
structure Notification where
  memory : Nat
  observer : Nat
  index : Nat
  value : Byte
deriving DecidableEq, Repr

/-- The state of the whole machine. -/
structure State where
  /-- A, the accumulator (spec 10_state R21). -/
  a : Byte
  /-- X, an index register (R22). -/
  x : Byte
  /-- Y, an index register (R23). -/
  y : Byte
  /-- S, the stack pointer (R24). -/
  sp : Byte
  /-- PC, the program counter (R25). -/
  pc : Word
  /-- P, the status register (R26). -/
  p : Status
  /-- `jammed` (R30). -/
  jammed : Bool
  /-- `currentOpcode` (R31). -/
  currentOpcode : Byte
  /-- `penalty`, the per-instruction cycle-penalty counter (R32). -/
  penalty : Nat
  /-- The Memories behind the Bus, by number (spec 20_memory R60, R63). -/
  memories : List Memory
  /-- The peripherals behind the Bus, by number (R62). -/
  peripherals : List Peripheral
  /-- What write-observers were told, newest first (R65; log entry 10). -/
  notifications : List Notification
  /-- The Computer's total elapsed cycle count (spec 60_exceptions R279). -/
  total : Nat
  /-- The level of the IRQ request input (R272; log entry 9). -/
  irq : Bool
  /-- How many peripheral reads were answered: the model's own field, which feeds PERIPH_READ (log entry 4). -/
  draws : Nat
  /-- The parameters of spec 00_scope R7; no step writes them (log entry 1). -/
  cfg : Config
deriving DecidableEq, Repr

/-- Why the machine stops with a fault: never.  The core "raises no exceptions in normal operation" and no access
faults (spec 60_exceptions R270, 20_memory R74), so there is no constructor. -/
inductive Fault where
deriving DecidableEq, Repr

/-- Why an instruction has no meaning. -/
inductive Refusal where
  /-- Raised by an arm of exec whose instruction has no meaning yet; no arm does.  Safe. -/
  | notModelled (mnemonic : String)
  /-- Raised by the eight unstable slots when UNSTABLE_POLICY is `refuse` (spec 47_illegal R255), which is not the
  default.  Safe: "this errs toward unprovable". -/
  | unstableSlot
deriving DecidableEq, Repr

/-- The cartridge ROM of the console before any image is loaded (spec 20_memory R60, 70_reset_and_hazards R292). -/
def blankRom : Memory := ⟨.cartridgeRom, 4096, true, [], []⟩

/-- The RAM of the console (spec 20_memory R60). -/
def blankRam : Memory := ⟨.ram, 128, false, [], []⟩

/-- The one Memory of the flat test bus (spec 20_memory R61). -/
def blankFlatRam : Memory := ⟨.flatRam, 65536, false, [], []⟩

/-- The console right after `reset()` with no ROM image loaded (spec 70_reset_and_hazards R290, R291).  S, P.I, P.D
and `jammed` are reset's own values; PC is the word at 0xFFFC, which is 0x0000 in an empty ROM (log entry 3); A, X,
Y, the other flags and `currentOpcode` are RESET_UNSPEC, DESIGN CHOICE zero, unsafe (log entry 2). -/
def State.reset : State where
  a := 0x00
  x := 0x00
  y := 0x00
  sp := 0xFF
  pc := 0x0000
  p := ⟨false, false, false, false, true, false, false⟩
  jammed := false
  currentOpcode := 0x00
  penalty := 0
  memories := [blankRom, blankRam]
  peripherals := [⟨0, []⟩, ⟨0, []⟩]
  notifications := []
  total := 0
  irq := false
  draws := 0
  cfg := Config.console

end Sys2Proof.Machine
end

