-- ==== Sys2Proof/Machine/Cycles.lean ====
section
/-! DEFINITION. Cycle accounting (spec 40_addressing_modes R126 to R129): the base-cycle table, the `base_cycles`
column of spec/opcode_table.json, and the cost of the JAM opcodes. -/

namespace Sys2Proof.Machine

/-- The static base-cycle table, 256 entries in sixteen rows of sixteen (spec 40_addressing_modes R129). -/
def baseCycleTable : List Nat :=
  [7, 6, 2, 8, 3, 3, 5, 5, 3, 2, 2, 2, 4, 4, 6, 6] ++ (
  [2, 5, 2, 8, 4, 4, 6, 6, 2, 4, 2, 7, 4, 4, 7, 7] ++ (
  [6, 6, 2, 8, 3, 3, 5, 5, 4, 2, 2, 2, 4, 4, 6, 6] ++ (
  [2, 5, 2, 8, 4, 4, 6, 6, 2, 4, 2, 7, 4, 4, 7, 7] ++ (
  [6, 6, 2, 8, 3, 3, 5, 5, 3, 2, 2, 2, 3, 4, 6, 6] ++ (
  [2, 5, 2, 8, 4, 4, 6, 6, 2, 4, 2, 7, 4, 4, 7, 7] ++ (
  [6, 6, 2, 8, 3, 3, 5, 5, 4, 2, 2, 2, 5, 4, 6, 6] ++ (
  [2, 5, 2, 8, 4, 4, 6, 6, 2, 4, 2, 7, 4, 4, 7, 7] ++ (
  [2, 6, 2, 6, 3, 3, 3, 3, 2, 2, 2, 2, 4, 4, 4, 4] ++ (
  [2, 6, 2, 6, 4, 4, 4, 4, 2, 5, 2, 5, 5, 5, 5, 5] ++ (
  [2, 6, 2, 6, 3, 3, 3, 3, 2, 2, 2, 2, 4, 4, 4, 4] ++ (
  [2, 5, 2, 5, 4, 4, 4, 4, 2, 4, 2, 4, 4, 4, 4, 4] ++ (
  [2, 6, 2, 8, 3, 3, 5, 5, 2, 2, 2, 2, 4, 4, 6, 6] ++ (
  [2, 5, 2, 8, 4, 4, 6, 6, 2, 4, 2, 7, 4, 4, 7, 7] ++ (
  [2, 6, 2, 8, 3, 3, 5, 5, 2, 2, 2, 2, 4, 4, 6, 6] ++ (
  [2, 5, 2, 8, 4, 4, 6, 6, 2, 4, 2, 7, 4, 4, 7, 7])))))))))))))))

/-- The table has one entry per opcode byte. -/
theorem baseCycleTable_length : baseCycleTable.length = 256 := by decide +kernel

/-- The nominal cost of an opcode. -/
def baseCycles (op : Byte) : Nat := baseCycleTable[op.toNat]'(by rw [baseCycleTable_length]; exact op.isLt)

/-- The JAM opcodes (spec 30_encoding R96, 47_illegal R254). -/
def jamOpcodes : List Byte :=
  [0x02, 0x12, 0x22, 0x32, 0x42, 0x52, 0x62, 0x72, 0x92, 0xB2, 0xD2, 0xF2]

/-- The cost of a step before its penalties: `JAM_CYCLES` for a JAM opcode, else the table's entry
(spec 40_addressing_modes R129). -/
def nominalCycles (cfg : Config) (op : Byte) : Nat :=
  if op ∈ jamOpcodes then cfg.jamCycles else baseCycles op

end Sys2Proof.Machine
end

