-- ==== Sys2Proof/WellFormed.lean ====
section
/-! DEFINITION. Well-formedness of instructions and of Bus maps. -/

namespace Sys2Proof

/-- Every term of `Instr` is an instruction: a constructor is a row of the opcode table, and its operand has
exactly the width the encoding gives it (spec 30_encoding R90, R93, R94), so there is nothing left to check and
no ill-formed term (log entry 16). -/
def Instr.wf (_ : Instr) : Bool := true

/-- Whether a range holds the masked address `a`. -/
def BusRange.covers (r : BusRange) (a : Word) : Bool := a &&& r.lines == r.value

/-- How many address lines a mask has. -/
def lineCount (w : Word) : Nat := ((List.range 16).filter w.getLsbD).length

/-- The lines a range tests are lines the Bus keeps, and its value lies on the lines it tests. -/
def BusRange.wf (addrMask : Word) (r : BusRange) : Bool :=
  r.lines &&& addrMask == r.lines && r.value &&& r.lines == r.value

/-- Two ranges share no masked address: they ask different values of some line. -/
def BusRange.disjoint (r r' : BusRange) : Bool :=
  (r.value ^^^ r'.value) &&& r.lines &&& r'.lines != 0

/-- No two ranges of the list overlap. -/
def pairwiseDisjoint : List BusRange → Bool
  | [] => true
  | r :: rest => rest.all r.disjoint && pairwiseDisjoint rest

/-- How many masked addresses a range holds. -/
def BusRange.size (addrMask : Word) (r : BusRange) : Nat :=
  2 ^ (lineCount addrMask - lineCount r.lines)

/-- The Bus map partitions the masked address space (spec 20_memory R53): its ranges "must never overlap and must
cover 100% of the address space".  Coverage is counted: disjoint ranges whose sizes add up to the whole space. -/
def Config.busWf (cfg : Config) : Bool :=
  cfg.busMap.all (BusRange.wf cfg.addrMask) && pairwiseDisjoint cfg.busMap &&
    (cfg.busMap.map (BusRange.size cfg.addrMask)).sum == 2 ^ lineCount cfg.addrMask

end Sys2Proof
end

