-- ==== Sys2Proof/Decode.lean ====
section
/-! DEFINITION. The decoder and the encoder (spec 30_encoding), and the byte-order helpers they share with the
machine.  The decoder is a lookup of the whole opcode byte in a table of 256 entries (R91), laid out as the
opcode map of R95; the encoder is written row by row from spec/opcode_table.json. -/

namespace Sys2Proof

/-- `hi ++ lo` (spec 00_scope R8): the 16-bit word of a high and a low byte. -/
def mkWord (hi lo : Byte) : Word := hi ++ lo

/-- Bits 7 to 0 of a word. -/
def loByte (w : Word) : Byte := w.setWidth 8

/-- Bits 15 to 8 of a word. -/
def hiByte (w : Word) : Byte := (w >>> 8).setWidth 8

/-- A byte as a word, zero-extended (spec 00_scope R9, `zext_16`). -/
def zext (b : Byte) : Word := b.setWidth 16

/-- A byte as a word, sign-extended (spec 00_scope R9, `sext_16`). -/
def sext (b : Byte) : Word := b.signExtend 16

/-- What the opcode byte alone decides (spec 30_encoding R90, R92): the instruction once its operand bytes are
known, and how many of them are fetched. -/
inductive Slot where
  /-- One byte long (format F1). -/
  | bare (i : Instr)
  /-- Two bytes long; the second is passed over and never read (format F2b, and the immediate operand of an
  operation that performs no read; log entry 6). -/
  | skip (i : Instr)
  /-- Two bytes long, operand8 or disp8 fetched (formats F2 and F2r). -/
  | byte (f : Byte → Instr)
  /-- Three bytes long, operand16 fetched low byte first (format F3). -/
  | word (f : Word → Instr)

/-- The length of the instruction in bytes (spec 30_encoding R92). -/
def Slot.length : Slot → Nat
  | .bare _ => 1
  | .skip _ => 2
  | .byte _ => 2
  | .word _ => 3

/-- How many bytes of the instruction the core fetches: the length, less a byte it passes over. -/
def Slot.fetched : Slot → Nat
  | .bare _ => 1
  | .skip _ => 1
  | .byte _ => 2
  | .word _ => 3

/-- Row 0x of the opcode map (spec 30_encoding R95). -/
def opcodeRow0 : List Slot :=
  [.skip .brk, .byte .oraIndX, .bare .jam02, .byte .sloIndX,
   .byte .nop04, .byte .oraZp, .byte .aslZp, .byte .sloZp,
   .bare .php, .byte .oraImm, .bare .aslAcc, .byte .anc0B,
   .word .nop0C, .word .oraAbs, .word .aslAbs, .word .sloAbs]

/-- Row 1x of the opcode map (spec 30_encoding R95). -/
def opcodeRow1 : List Slot :=
  [.byte .bpl, .byte .oraIndY, .bare .jam12, .byte .sloIndY,
   .byte .nop14, .byte .oraZpX, .byte .aslZpX, .byte .sloZpX,
   .bare .clc, .word .oraAbsY, .bare .nop1A, .word .sloAbsY,
   .word .nop1C, .word .oraAbsX, .word .aslAbsX, .word .sloAbsX]

/-- Row 2x of the opcode map (spec 30_encoding R95). -/
def opcodeRow2 : List Slot :=
  [.word .jsr, .byte .andIndX, .bare .jam22, .byte .rlaIndX,
   .byte .bitZp, .byte .andZp, .byte .rolZp, .byte .rlaZp,
   .bare .plp, .byte .andImm, .bare .rolAcc, .byte .anc2B,
   .word .bitAbs, .word .andAbs, .word .rolAbs, .word .rlaAbs]

/-- Row 3x of the opcode map (spec 30_encoding R95). -/
def opcodeRow3 : List Slot :=
  [.byte .bmi, .byte .andIndY, .bare .jam32, .byte .rlaIndY,
   .byte .nop34, .byte .andZpX, .byte .rolZpX, .byte .rlaZpX,
   .bare .sec, .word .andAbsY, .bare .nop3A, .word .rlaAbsY,
   .word .nop3C, .word .andAbsX, .word .rolAbsX, .word .rlaAbsX]

/-- Row 4x of the opcode map (spec 30_encoding R95). -/
def opcodeRow4 : List Slot :=
  [.bare .rti, .byte .eorIndX, .bare .jam42, .byte .sreIndX,
   .byte .nop44, .byte .eorZp, .byte .lsrZp, .byte .sreZp,
   .bare .pha, .byte .eorImm, .bare .lsrAcc, .byte .alr,
   .word .jmpAbs, .word .eorAbs, .word .lsrAbs, .word .sreAbs]

/-- Row 5x of the opcode map (spec 30_encoding R95). -/
def opcodeRow5 : List Slot :=
  [.byte .bvc, .byte .eorIndY, .bare .jam52, .byte .sreIndY,
   .byte .nop54, .byte .eorZpX, .byte .lsrZpX, .byte .sreZpX,
   .bare .cli, .word .eorAbsY, .bare .nop5A, .word .sreAbsY,
   .word .nop5C, .word .eorAbsX, .word .lsrAbsX, .word .sreAbsX]

/-- Row 6x of the opcode map (spec 30_encoding R95). -/
def opcodeRow6 : List Slot :=
  [.bare .rts, .byte .adcIndX, .bare .jam62, .byte .rraIndX,
   .byte .nop64, .byte .adcZp, .byte .rorZp, .byte .rraZp,
   .bare .pla, .byte .adcImm, .bare .rorAcc, .byte .arr,
   .word .jmpInd, .word .adcAbs, .word .rorAbs, .word .rraAbs]

/-- Row 7x of the opcode map (spec 30_encoding R95). -/
def opcodeRow7 : List Slot :=
  [.byte .bvs, .byte .adcIndY, .bare .jam72, .byte .rraIndY,
   .byte .nop74, .byte .adcZpX, .byte .rorZpX, .byte .rraZpX,
   .bare .sei, .word .adcAbsY, .bare .nop7A, .word .rraAbsY,
   .word .nop7C, .word .adcAbsX, .word .rorAbsX, .word .rraAbsX]

/-- Row 8x of the opcode map (spec 30_encoding R95). -/
def opcodeRow8 : List Slot :=
  [.skip .nop80, .byte .staIndX, .skip .nop82, .byte .saxIndX,
   .byte .styZp, .byte .staZp, .byte .stxZp, .byte .saxZp,
   .bare .dey, .skip .nop89, .bare .txa, .skip .ane,
   .word .styAbs, .word .staAbs, .word .stxAbs, .word .saxAbs]

/-- Row 9x of the opcode map (spec 30_encoding R95). -/
def opcodeRow9 : List Slot :=
  [.byte .bcc, .byte .staIndY, .bare .jam92, .byte .shaIndY,
   .byte .styZpX, .byte .staZpX, .byte .stxZpY, .byte .saxZpY,
   .bare .tya, .word .staAbsY, .bare .txs, .word .tas,
   .word .shy, .word .staAbsX, .word .shx, .word .shaAbsY]

/-- Row Ax of the opcode map (spec 30_encoding R95). -/
def opcodeRowA : List Slot :=
  [.byte .ldyImm, .byte .ldaIndX, .byte .ldxImm, .byte .laxIndX,
   .byte .ldyZp, .byte .ldaZp, .byte .ldxZp, .byte .laxZp,
   .bare .tay, .byte .ldaImm, .bare .tax, .skip .lxa,
   .word .ldyAbs, .word .ldaAbs, .word .ldxAbs, .word .laxAbs]

/-- Row Bx of the opcode map (spec 30_encoding R95). -/
def opcodeRowB : List Slot :=
  [.byte .bcs, .byte .ldaIndY, .bare .jamB2, .byte .laxIndY,
   .byte .ldyZpX, .byte .ldaZpX, .byte .ldxZpY, .byte .laxZpY,
   .bare .clv, .word .ldaAbsY, .bare .tsx, .word .las,
   .word .ldyAbsX, .word .ldaAbsX, .word .ldxAbsY, .word .laxAbsY]

/-- Row Cx of the opcode map (spec 30_encoding R95). -/
def opcodeRowC : List Slot :=
  [.byte .cpyImm, .byte .cmpIndX, .skip .nopC2, .byte .dcpIndX,
   .byte .cpyZp, .byte .cmpZp, .byte .decZp, .byte .dcpZp,
   .bare .iny, .byte .cmpImm, .bare .dex, .byte .sbx,
   .word .cpyAbs, .word .cmpAbs, .word .decAbs, .word .dcpAbs]

/-- Row Dx of the opcode map (spec 30_encoding R95). -/
def opcodeRowD : List Slot :=
  [.byte .bne, .byte .cmpIndY, .bare .jamD2, .byte .dcpIndY,
   .byte .nopD4, .byte .cmpZpX, .byte .decZpX, .byte .dcpZpX,
   .bare .cld, .word .cmpAbsY, .bare .nopDA, .word .dcpAbsY,
   .word .nopDC, .word .cmpAbsX, .word .decAbsX, .word .dcpAbsX]

/-- Row Ex of the opcode map (spec 30_encoding R95). -/
def opcodeRowE : List Slot :=
  [.byte .cpxImm, .byte .sbcIndX, .skip .nopE2, .byte .iscIndX,
   .byte .cpxZp, .byte .sbcZp, .byte .incZp, .byte .iscZp,
   .bare .inx, .byte .sbcImm, .bare .nop, .byte .usbc,
   .word .cpxAbs, .word .sbcAbs, .word .incAbs, .word .iscAbs]

/-- Row Fx of the opcode map (spec 30_encoding R95). -/
def opcodeRowF : List Slot :=
  [.byte .beq, .byte .sbcIndY, .bare .jamF2, .byte .iscIndY,
   .byte .nopF4, .byte .sbcZpX, .byte .incZpX, .byte .iscZpX,
   .bare .sed, .word .sbcAbsY, .bare .nopFA, .word .iscAbsY,
   .word .nopFC, .word .sbcAbsX, .word .incAbsX, .word .iscAbsX]

/-- The opcode map (spec 30_encoding R95): 256 slots, indexed by the opcode byte. -/
def opcodeMap : List Slot :=
  opcodeRow0 ++ (opcodeRow1 ++ (opcodeRow2 ++ (opcodeRow3 ++ (opcodeRow4 ++ (opcodeRow5 ++ (opcodeRow6 ++ (opcodeRow7 ++
  (opcodeRow8 ++ (opcodeRow9 ++ (opcodeRowA ++ (opcodeRowB ++ (opcodeRowC ++ (opcodeRowD ++ (opcodeRowE ++ opcodeRowF))))))))))))))

/-- Each of the 256 byte values selects exactly one slot (spec 30_encoding R94). -/
theorem opcodeMap_length : opcodeMap.length = 256 := by decide +kernel

/-- The slot an opcode byte selects; no byte value is rejected (spec 30_encoding R94, R97). -/
def slotOf (op : Byte) : Slot :=
  opcodeMap[op.toNat]'(by rw [opcodeMap_length]; exact op.isLt)

/-- Why a list of bytes is not an instruction.  No opcode byte is a reason (spec 30_encoding R97): only missing
bytes are. -/
inductive DecodeError where
  /-- There is no opcode byte. -/
  | opcodeMissing
  /-- The bytes end before the operand of the opcode `op`. -/
  | operandMissing (op : Byte)
deriving DecidableEq, Repr

/-- The instruction at the head of a list of bytes, and the bytes after it (spec 30_encoding R98).  A byte that
is passed over may be missing, since nothing reads it. -/
def decode : List Byte → Except DecodeError (Instr × List Byte)
  | [] => .error .opcodeMissing
  | op :: rest =>
    match slotOf op with
    | .bare i => .ok (i, rest)
    | .skip i => .ok (i, rest.drop 1)
    | .byte f =>
      match rest with
      | b :: rest' => .ok (f b, rest')
      | [] => .error (.operandMissing op)
    | .word f =>
      match rest with
      | lo :: hi :: rest' => .ok (f (mkWord hi lo), rest')
      | _ => .error (.operandMissing op)

/-- The two bytes of an operand16 as the instruction stream holds them: low byte first (spec 30_encoding R93). -/
def wordBytes (nn : Word) : List Byte := [loByte nn, hiByte nn]

/-- The bytes of an instruction (spec/opcode_table.json, 30_encoding R90).  A byte the core never reads is
emitted as 0x00 (log entry 18). -/
def encode : Instr → List Byte
  | .brk => [0x00, 0x00]
  | .oraIndX n => [0x01, n]
  | .jam02 => [0x02]
  | .sloIndX n => [0x03, n]
  | .nop04 n => [0x04, n]
  | .oraZp n => [0x05, n]
  | .aslZp n => [0x06, n]
  | .sloZp n => [0x07, n]
  | .php => [0x08]
  | .oraImm n => [0x09, n]
  | .aslAcc => [0x0A]
  | .anc0B n => [0x0B, n]
  | .nop0C nn => 0x0C :: wordBytes nn
  | .oraAbs nn => 0x0D :: wordBytes nn
  | .aslAbs nn => 0x0E :: wordBytes nn
  | .sloAbs nn => 0x0F :: wordBytes nn
  | .bpl d => [0x10, d]
  | .oraIndY n => [0x11, n]
  | .jam12 => [0x12]
  | .sloIndY n => [0x13, n]
  | .nop14 n => [0x14, n]
  | .oraZpX n => [0x15, n]
  | .aslZpX n => [0x16, n]
  | .sloZpX n => [0x17, n]
  | .clc => [0x18]
  | .oraAbsY nn => 0x19 :: wordBytes nn
  | .nop1A => [0x1A]
  | .sloAbsY nn => 0x1B :: wordBytes nn
  | .nop1C nn => 0x1C :: wordBytes nn
  | .oraAbsX nn => 0x1D :: wordBytes nn
  | .aslAbsX nn => 0x1E :: wordBytes nn
  | .sloAbsX nn => 0x1F :: wordBytes nn
  | .jsr nn => 0x20 :: wordBytes nn
  | .andIndX n => [0x21, n]
  | .jam22 => [0x22]
  | .rlaIndX n => [0x23, n]
  | .bitZp n => [0x24, n]
  | .andZp n => [0x25, n]
  | .rolZp n => [0x26, n]
  | .rlaZp n => [0x27, n]
  | .plp => [0x28]
  | .andImm n => [0x29, n]
  | .rolAcc => [0x2A]
  | .anc2B n => [0x2B, n]
  | .bitAbs nn => 0x2C :: wordBytes nn
  | .andAbs nn => 0x2D :: wordBytes nn
  | .rolAbs nn => 0x2E :: wordBytes nn
  | .rlaAbs nn => 0x2F :: wordBytes nn
  | .bmi d => [0x30, d]
  | .andIndY n => [0x31, n]
  | .jam32 => [0x32]
  | .rlaIndY n => [0x33, n]
  | .nop34 n => [0x34, n]
  | .andZpX n => [0x35, n]
  | .rolZpX n => [0x36, n]
  | .rlaZpX n => [0x37, n]
  | .sec => [0x38]
  | .andAbsY nn => 0x39 :: wordBytes nn
  | .nop3A => [0x3A]
  | .rlaAbsY nn => 0x3B :: wordBytes nn
  | .nop3C nn => 0x3C :: wordBytes nn
  | .andAbsX nn => 0x3D :: wordBytes nn
  | .rolAbsX nn => 0x3E :: wordBytes nn
  | .rlaAbsX nn => 0x3F :: wordBytes nn
  | .rti => [0x40]
  | .eorIndX n => [0x41, n]
  | .jam42 => [0x42]
  | .sreIndX n => [0x43, n]
  | .nop44 n => [0x44, n]
  | .eorZp n => [0x45, n]
  | .lsrZp n => [0x46, n]
  | .sreZp n => [0x47, n]
  | .pha => [0x48]
  | .eorImm n => [0x49, n]
  | .lsrAcc => [0x4A]
  | .alr n => [0x4B, n]
  | .jmpAbs nn => 0x4C :: wordBytes nn
  | .eorAbs nn => 0x4D :: wordBytes nn
  | .lsrAbs nn => 0x4E :: wordBytes nn
  | .sreAbs nn => 0x4F :: wordBytes nn
  | .bvc d => [0x50, d]
  | .eorIndY n => [0x51, n]
  | .jam52 => [0x52]
  | .sreIndY n => [0x53, n]
  | .nop54 n => [0x54, n]
  | .eorZpX n => [0x55, n]
  | .lsrZpX n => [0x56, n]
  | .sreZpX n => [0x57, n]
  | .cli => [0x58]
  | .eorAbsY nn => 0x59 :: wordBytes nn
  | .nop5A => [0x5A]
  | .sreAbsY nn => 0x5B :: wordBytes nn
  | .nop5C nn => 0x5C :: wordBytes nn
  | .eorAbsX nn => 0x5D :: wordBytes nn
  | .lsrAbsX nn => 0x5E :: wordBytes nn
  | .sreAbsX nn => 0x5F :: wordBytes nn
  | .rts => [0x60]
  | .adcIndX n => [0x61, n]
  | .jam62 => [0x62]
  | .rraIndX n => [0x63, n]
  | .nop64 n => [0x64, n]
  | .adcZp n => [0x65, n]
  | .rorZp n => [0x66, n]
  | .rraZp n => [0x67, n]
  | .pla => [0x68]
  | .adcImm n => [0x69, n]
  | .rorAcc => [0x6A]
  | .arr n => [0x6B, n]
  | .jmpInd ptr => 0x6C :: wordBytes ptr
  | .adcAbs nn => 0x6D :: wordBytes nn
  | .rorAbs nn => 0x6E :: wordBytes nn
  | .rraAbs nn => 0x6F :: wordBytes nn
  | .bvs d => [0x70, d]
  | .adcIndY n => [0x71, n]
  | .jam72 => [0x72]
  | .rraIndY n => [0x73, n]
  | .nop74 n => [0x74, n]
  | .adcZpX n => [0x75, n]
  | .rorZpX n => [0x76, n]
  | .rraZpX n => [0x77, n]
  | .sei => [0x78]
  | .adcAbsY nn => 0x79 :: wordBytes nn
  | .nop7A => [0x7A]
  | .rraAbsY nn => 0x7B :: wordBytes nn
  | .nop7C nn => 0x7C :: wordBytes nn
  | .adcAbsX nn => 0x7D :: wordBytes nn
  | .rorAbsX nn => 0x7E :: wordBytes nn
  | .rraAbsX nn => 0x7F :: wordBytes nn
  | .nop80 => [0x80, 0x00]
  | .staIndX n => [0x81, n]
  | .nop82 => [0x82, 0x00]
  | .saxIndX n => [0x83, n]
  | .styZp n => [0x84, n]
  | .staZp n => [0x85, n]
  | .stxZp n => [0x86, n]
  | .saxZp n => [0x87, n]
  | .dey => [0x88]
  | .nop89 => [0x89, 0x00]
  | .txa => [0x8A]
  | .ane => [0x8B, 0x00]
  | .styAbs nn => 0x8C :: wordBytes nn
  | .staAbs nn => 0x8D :: wordBytes nn
  | .stxAbs nn => 0x8E :: wordBytes nn
  | .saxAbs nn => 0x8F :: wordBytes nn
  | .bcc d => [0x90, d]
  | .staIndY n => [0x91, n]
  | .jam92 => [0x92]
  | .shaIndY n => [0x93, n]
  | .styZpX n => [0x94, n]
  | .staZpX n => [0x95, n]
  | .stxZpY n => [0x96, n]
  | .saxZpY n => [0x97, n]
  | .tya => [0x98]
  | .staAbsY nn => 0x99 :: wordBytes nn
  | .txs => [0x9A]
  | .tas nn => 0x9B :: wordBytes nn
  | .shy nn => 0x9C :: wordBytes nn
  | .staAbsX nn => 0x9D :: wordBytes nn
  | .shx nn => 0x9E :: wordBytes nn
  | .shaAbsY nn => 0x9F :: wordBytes nn
  | .ldyImm n => [0xA0, n]
  | .ldaIndX n => [0xA1, n]
  | .ldxImm n => [0xA2, n]
  | .laxIndX n => [0xA3, n]
  | .ldyZp n => [0xA4, n]
  | .ldaZp n => [0xA5, n]
  | .ldxZp n => [0xA6, n]
  | .laxZp n => [0xA7, n]
  | .tay => [0xA8]
  | .ldaImm n => [0xA9, n]
  | .tax => [0xAA]
  | .lxa => [0xAB, 0x00]
  | .ldyAbs nn => 0xAC :: wordBytes nn
  | .ldaAbs nn => 0xAD :: wordBytes nn
  | .ldxAbs nn => 0xAE :: wordBytes nn
  | .laxAbs nn => 0xAF :: wordBytes nn
  | .bcs d => [0xB0, d]
  | .ldaIndY n => [0xB1, n]
  | .jamB2 => [0xB2]
  | .laxIndY n => [0xB3, n]
  | .ldyZpX n => [0xB4, n]
  | .ldaZpX n => [0xB5, n]
  | .ldxZpY n => [0xB6, n]
  | .laxZpY n => [0xB7, n]
  | .clv => [0xB8]
  | .ldaAbsY nn => 0xB9 :: wordBytes nn
  | .tsx => [0xBA]
  | .las nn => 0xBB :: wordBytes nn
  | .ldyAbsX nn => 0xBC :: wordBytes nn
  | .ldaAbsX nn => 0xBD :: wordBytes nn
  | .ldxAbsY nn => 0xBE :: wordBytes nn
  | .laxAbsY nn => 0xBF :: wordBytes nn
  | .cpyImm n => [0xC0, n]
  | .cmpIndX n => [0xC1, n]
  | .nopC2 => [0xC2, 0x00]
  | .dcpIndX n => [0xC3, n]
  | .cpyZp n => [0xC4, n]
  | .cmpZp n => [0xC5, n]
  | .decZp n => [0xC6, n]
  | .dcpZp n => [0xC7, n]
  | .iny => [0xC8]
  | .cmpImm n => [0xC9, n]
  | .dex => [0xCA]
  | .sbx n => [0xCB, n]
  | .cpyAbs nn => 0xCC :: wordBytes nn
  | .cmpAbs nn => 0xCD :: wordBytes nn
  | .decAbs nn => 0xCE :: wordBytes nn
  | .dcpAbs nn => 0xCF :: wordBytes nn
  | .bne d => [0xD0, d]
  | .cmpIndY n => [0xD1, n]
  | .jamD2 => [0xD2]
  | .dcpIndY n => [0xD3, n]
  | .nopD4 n => [0xD4, n]
  | .cmpZpX n => [0xD5, n]
  | .decZpX n => [0xD6, n]
  | .dcpZpX n => [0xD7, n]
  | .cld => [0xD8]
  | .cmpAbsY nn => 0xD9 :: wordBytes nn
  | .nopDA => [0xDA]
  | .dcpAbsY nn => 0xDB :: wordBytes nn
  | .nopDC nn => 0xDC :: wordBytes nn
  | .cmpAbsX nn => 0xDD :: wordBytes nn
  | .decAbsX nn => 0xDE :: wordBytes nn
  | .dcpAbsX nn => 0xDF :: wordBytes nn
  | .cpxImm n => [0xE0, n]
  | .sbcIndX n => [0xE1, n]
  | .nopE2 => [0xE2, 0x00]
  | .iscIndX n => [0xE3, n]
  | .cpxZp n => [0xE4, n]
  | .sbcZp n => [0xE5, n]
  | .incZp n => [0xE6, n]
  | .iscZp n => [0xE7, n]
  | .inx => [0xE8]
  | .sbcImm n => [0xE9, n]
  | .nop => [0xEA]
  | .usbc n => [0xEB, n]
  | .cpxAbs nn => 0xEC :: wordBytes nn
  | .sbcAbs nn => 0xED :: wordBytes nn
  | .incAbs nn => 0xEE :: wordBytes nn
  | .iscAbs nn => 0xEF :: wordBytes nn
  | .beq d => [0xF0, d]
  | .sbcIndY n => [0xF1, n]
  | .jamF2 => [0xF2]
  | .iscIndY n => [0xF3, n]
  | .nopF4 n => [0xF4, n]
  | .sbcZpX n => [0xF5, n]
  | .incZpX n => [0xF6, n]
  | .iscZpX n => [0xF7, n]
  | .sed => [0xF8]
  | .sbcAbsY nn => 0xF9 :: wordBytes nn
  | .nopFA => [0xFA]
  | .iscAbsY nn => 0xFB :: wordBytes nn
  | .nopFC nn => 0xFC :: wordBytes nn
  | .sbcAbsX nn => 0xFD :: wordBytes nn
  | .incAbsX nn => 0xFE :: wordBytes nn
  | .iscAbsX nn => 0xFF :: wordBytes nn

/-- The opcode byte of an instruction (spec 30_encoding R90). -/
def Instr.opcode (i : Instr) : Byte := (encode i).headD 0

/-- The length of an instruction in bytes (spec 30_encoding R92). -/
def Instr.length (i : Instr) : Nat := (encode i).length

/-- The first three bytes of an instruction whose bits are `w`, numbered as spec/opcode_table.json numbers them
(bit 0 is the least significant bit of the first byte); every bit from `nbits` up is 0. -/
def tableBytes (nbits w : Nat) : List Byte :=
  let v := w % 2 ^ nbits
  [BitVec.ofNat 8 v, BitVec.ofNat 8 (v / 256), BitVec.ofNat 8 (v / 65536)]

/-- The instruction the decoder reads from the bits of an opcode-table row. -/
def decodeTableWord (nbits w : Nat) : Option Instr :=
  match decode (tableBytes nbits w) with
  | .ok r => some r.1
  | .error _ => none

end Sys2Proof
end

