-- ==== Sys2Proof/Machine/Ops.lean ====
section
/-! DEFINITION. The named operations: the cells of a Memory, the Bus, registers, the stack, instruction fetch, and
the entry to and return from an interrupt. -/

namespace Sys2Proof.Machine

/-! ### Cells -/

/-- The byte at an index; an unlisted index reads as `unlistedByte`. -/
def cellsGet : List Host.Cell → Nat → Byte
  | [], _ => unlistedByte
  | (k, v) :: rest, i => if k = i then v else cellsGet rest i

/-- Writes one cell and keeps the canonical form: rising indices, no cell that holds `unlistedByte`. -/
def cellsPut : List Host.Cell → Nat → Byte → List Host.Cell
  | [], i, v => if v = unlistedByte then [] else [(i, v)]
  | (k, w) :: rest, i, v =>
    if i < k then
      if v = unlistedByte then (k, w) :: rest else (i, v) :: (k, w) :: rest
    else if i = k then
      if v = unlistedByte then rest else (k, v) :: rest
    else (k, w) :: cellsPut rest i v

/-- The canonical form of a cell list whose indices are at least `lo` and below `cap`. -/
def cellsWf (cap : Nat) : Nat → List Host.Cell → Bool
  | _, [] => true
  | lo, (k, v) :: rest => decide (lo ≤ k) && decide (k < cap) && v != unlistedByte && cellsWf cap (k + 1) rest

/-! ### The Memory primitive (spec 20_memory R63, R64) -/

/-- A Memory has at least one cell, and its cells are in canonical form within its capacity. -/
def Memory.wf (m : Memory) : Bool := decide (0 < m.cap) && cellsWf m.cap 0 m.cells

/-- "Address arithmetic is always `addr mod capacity`" (spec 20_memory R63). -/
def Memory.index (m : Memory) (i : Nat) : Nat := i % m.cap

/-- `Memory.load(i)` (spec 20_memory R63). -/
def Memory.load (m : Memory) (i : Nat) : Byte := cellsGet m.cells (m.index i)

/-- The cell write of `Memory.store(i, v)` (spec 20_memory R63); the Bus notifies the observers first. -/
def Memory.put (m : Memory) (i : Nat) (v : Byte) : Memory :=
  { m with cells := cellsPut m.cells (m.index i) v }

/-- The Memory's page-wrapped word read (spec 20_memory R64). -/
def Memory.loadWordWrapped (m : Memory) (a : Word) : Word :=
  mkWord (m.load ((a &&& 0xFF00) ||| ((a + 1) &&& 0x00FF)).toNat) (m.load a.toNat)

/-- What the observers of Memory number `k` are told of a store, in registration order (spec 20_memory R65); the
list is newest first, like the log it is put before. -/
def notices (k : Nat) (m : Memory) (i : Nat) (v : Byte) : List Notification :=
  (m.observers.map fun o => ⟨k, o, m.index i, v⟩).reverse

/-! ### Register and field updates -/

/-- A <- v. -/
def State.setA (s : State) (v : Byte) : State := { s with a := v }

/-- X <- v. -/
def State.setX (s : State) (v : Byte) : State := { s with x := v }

/-- Y <- v. -/
def State.setY (s : State) (v : Byte) : State := { s with y := v }

/-- S <- v. -/
def State.setSp (s : State) (v : Byte) : State := { s with sp := v }

/-- PC <- w. -/
def State.setPc (s : State) (w : Word) : State := { s with pc := w }

/-- P <- p. -/
def State.setP (s : State) (p : Status) : State := { s with p := p }

/-- `currentOpcode` <- op (spec 10_state R31). -/
def State.setCurrentOpcode (s : State) (op : Byte) : State := { s with currentOpcode := op }

/-- `penalty` <- n (spec 10_state R32). -/
def State.setPenalty (s : State) (n : Nat) : State := { s with penalty := n }

/-- `charge(n)` (spec 00_scope R12). -/
def State.charge (s : State) (n : Nat) : State := { s with penalty := s.penalty + n }

/-- `halt` (spec 00_scope R12). -/
def State.halt (s : State) : State := { s with jammed := true }

/-! ### The Bus (spec 20_memory R52 to R58) -/

/-- What a CPU address resolves to. -/
inductive Route where
  /-- Memory number `k`, which is `m`, at the local offset `off`. -/
  | cell (k : Nat) (m : Memory) (off : Nat)
  /-- Peripheral number `k`, with the local address of a read and of a write. -/
  | device (k readOff writeOff : Nat)
  /-- The fallback range. -/
  | unmapped
deriving DecidableEq, Repr

/-- The range that holds a masked address; where ranges overlap the first one wins (spec 20_memory R66). -/
def Config.rangeOf (cfg : Config) (a : Word) : Option BusRange :=
  cfg.busMap.find? (fun r => r.covers a)

/-- Masking and decode (spec 20_memory R52, R53).  A masked address that no range holds, and a range whose Memory
does not exist, are unmapped (log entry 21). -/
def route (s : State) (addr : Word) : Route :=
  let a := addr &&& s.cfg.addrMask
  match Config.rangeOf s.cfg a with
  | none => .unmapped
  | some r =>
    match r.target with
    | .memory k base mask =>
      match s.memories[k]? with
      | some m => .cell k m ((a - base) &&& mask).toNat
      | none => .unmapped
    | .peripheral k base readMask writeMask =>
      .device k ((a - base) &&& readMask).toNat ((a - base) &&& writeMask).toNat
    | .fallback => .unmapped

/-- The Memory cell a CPU address names, as the Memory's number and the index in it: two addresses with the same
cell are aliases (spec 20_memory R58). -/
def cellOf (s : State) (addr : Word) : Option (Nat × Nat) :=
  match route s addr with
  | .cell k m off => some (k, m.index off)
  | .device _ _ _ => none
  | .unmapped => none

/-- Adds an access to the record of peripheral number `k` (log entry 5). -/
def recordAccess (ps : List Peripheral) (k : Nat) (acc : PeriphAccess) : List Peripheral :=
  ps.modify k fun p => { p with accesses := acc :: p.accesses }

/-- `load(addr)`, MemRead(addr, 1) (spec 20_memory R54).  A peripheral read returns the next PERIPH_READ. -/
def load (s : State) (addr : Word) : Byte × State :=
  match route s addr with
  | .cell _ m off => (m.load off, s)
  | .device k readOff _ =>
    (Config.periphRead s.draws,
      { s with draws := s.draws + 1, peripherals := recordAccess s.peripherals k (.read readOff) })
  | .unmapped => (s.cfg.fallbackByte, s)

/-- `store(addr, v)`, MemWrite(addr, 1, v) (spec 20_memory R55, R57, R63): a store to a read-only Memory or to the
fallback range is discarded; a Memory's observers are notified before the cell is written. -/
def store (s : State) (addr : Word) (v : Byte) : State :=
  match route s addr with
  | .cell k m off =>
    if m.readOnly then s
    else
      { s with
        notifications := notices k m off v ++ s.notifications
        memories := s.memories.set k (m.put off v) }
  | .device k _ writeOff => { s with peripherals := recordAccess s.peripherals k (.write writeOff v) }
  | .unmapped => s

/-- `loadWord(addr)`, MemRead(addr, 2) (spec 20_memory R56): the low byte first, then the byte at the next address
modulo 65536. -/
def loadWord (s : State) (addr : Word) : Word × State :=
  let lo := load s addr
  let hi := load lo.2 (addr + 1)
  (mkWord hi.1 lo.1, hi.2)

/-- What a read of an address would find, with no side effect: nothing for a peripheral, whose answer is not state. -/
def peek (s : State) (addr : Word) : Option Byte :=
  match route s addr with
  | .cell _ m off => some (m.load off)
  | .device _ _ _ => none
  | .unmapped => some s.cfg.fallbackByte

/-! ### The instruction stream (spec 40_addressing_modes R111, R112) -/

/-- `FetchByte()`. -/
def fetchByte (s : State) : Byte × State :=
  let v := load s s.pc
  (v.1, v.2.setPc (s.pc + 1))

/-- `FetchWord()`: the low byte first. -/
def fetchWord (s : State) : Word × State :=
  let lo := fetchByte s
  let hi := fetchByte lo.2
  (mkWord hi.1 lo.1, hi.2)

/-- The PC advance of the immediate mode whose operation performs no read (spec 40_addressing_modes R115, 47_illegal
R253), and of BRK over its signature byte (45_control R223). -/
def skipByte (s : State) : State := s.setPc (s.pc + 1)

/-! ### The stack (spec 42_stack R160, R161) -/

/-- The CPU address of the stack byte S names: `0x0100 + S` (spec 10_state R24). -/
def stackAddr (sp : Byte) : Word := mkWord 0x01 sp

/-- `Push(v)`. -/
def push (s : State) (v : Byte) : State := (store s (stackAddr s.sp) v).setSp (s.sp - 1)

/-- `Pull()`. -/
def pull (s : State) : Byte × State :=
  let s' := s.setSp (s.sp + 1)
  load s' (stackAddr s'.sp)

/-! ### P as a byte (spec 10_state R27, R37) -/

/-- One flag at its bit position. -/
def flagBit (b : Bool) (k : Nat) : Byte := if b then 1#8 <<< k else 0#8

/-- The byte value of P, with bit 5 reading 1 (spec 10_state R27, R37). -/
def Status.toByte (p : Status) : Byte :=
  flagBit p.n 7 ||| flagBit p.v 6 ||| 0x20 ||| flagBit p.b 4 ||| flagBit p.d 3 ||| flagBit p.i 2 ||| flagBit p.z 1 |||
    flagBit p.c 0

/-- Every flag from its position in a byte; bit 5 of the byte is ignored (spec 10_state R27, R37). -/
def Status.ofByte (v : Byte) : Status :=
  ⟨v.getLsbD 7, v.getLsbD 6, v.getLsbD 4, v.getLsbD 3, v.getLsbD 2, v.getLsbD 1, v.getLsbD 0⟩

/-- P as PLP and RTI store a pulled byte: `(v | 0x20) & 0xEF` (spec 42_stack R165, 45_control R224). -/
def Status.ofPulled (v : Byte) : Status := Status.ofByte ((v ||| 0x20) &&& 0xEF)

/-! ### Interrupt entry and return (spec 60_exceptions R271, R276) -/

/-- The copy of P an interrupt entry pushes: bit 5 is 1, bit 4 is `b` (spec 60_exceptions R271). -/
def pushedStatus (p : Status) (b : Bool) : Byte := (p.toByte &&& 0xCF) ||| 0x20 ||| flagBit b 4

/-- `InterruptEntry(b)`, for BRK (`b` true) and for a hardware IRQ (`b` false): PCH, PCL and P are pushed, I is set,
and PC is loaded from the vector at 0xFFFE (spec 60_exceptions R271). -/
def interruptEntry (b : Bool) (s : State) : State :=
  let s1 := push s (hiByte s.pc)
  let s2 := push s1 (loByte s.pc)
  let s3 := push s2 (pushedStatus s.p b)
  let s4 := s3.setP { s3.p with i := true }
  let vector := loadWord s4 0xFFFE
  vector.2.setPc vector.1

/-- The return from an interrupt: P, PCL and PCH are pulled, with no address adjustment (spec 45_control R224). -/
def returnFromInterrupt (s : State) : State :=
  let v := pull s
  let lo := pull (v.2.setP (Status.ofPulled v.1))
  let hi := pull lo.2
  hi.2.setPc (mkWord hi.1 lo.1)

end Sys2Proof.Machine
end

