-- ==== Sys2Proof/Machine/Operands.lean ====
section
/-! DEFINITION. The addressing-mode resolver and the operand primitives (spec 40_addressing_modes R113 to R126, R130).
The operand bytes of a mode were fetched with the instruction (log entry 6); what is left here is the pointer
reads, the indexing and the penalty. -/

namespace Sys2Proof.Machine

/-- What a mode returns: the effective address, whether indexing crossed a page, and the state after the mode's
pointer reads. -/
structure Resolved where
  ea : Word
  crossed : Bool
  state : State
deriving DecidableEq, Repr

/-- Whether two addresses lie in different pages: their high bytes differ (spec 40_addressing_modes R120). -/
def pageDiffers (a b : Word) : Bool := a &&& 0xFF00 != b &&& 0xFF00

/-- A base address indexed by a register, modulo 65536 (spec 40_addressing_modes R120). -/
def indexed (base : Word) (index : Byte) (s : State) : Resolved :=
  ⟨base + zext index, pageDiffers base (base + zext index), s⟩

/-- The pointer at zero-page address `z`: two zero-page bytes, little-endian, wrapping within page 0
(spec 40_addressing_modes R122, R123). -/
def zeroPagePointer (s : State) (z : Byte) : Word × State :=
  let lo := load s (zext z)
  let hi := load lo.2 (zext (z + 1))
  (mkWord hi.1 lo.1, hi.2)

/-- The effective address of each mode (spec 40_addressing_modes R116 to R123). -/
def resolve (m : AddrMode) (s : State) : Resolved :=
  match m with
  | .zeroPage n => ⟨zext n, false, s⟩
  | .zeroPageX n => ⟨zext (n + s.x), false, s⟩
  | .zeroPageY n => ⟨zext (n + s.y), false, s⟩
  | .absolute nn => ⟨nn, false, s⟩
  | .absoluteX nn => indexed nn s.x s
  | .absoluteY nn => indexed nn s.y s
  | .indexedIndirect n =>
    let p := zeroPagePointer s (n + s.x)
    ⟨p.1, false, p.2⟩
  | .indirectIndexed n =>
    let p := zeroPagePointer s n
    indexed p.1 p.2.y p.2

/-- The page-cross penalty of the read instructions (spec 40_addressing_modes R126). -/
def chargeCross (r : Resolved) : State := if r.crossed then r.state.charge 1 else r.state

/-- `ReadOperand()` of the read instructions, with their page-cross penalty (spec 40_addressing_modes R126, R130). -/
def readOperand (src : Source) (s : State) : Byte × State :=
  match src with
  | .immediate n => (n, s)
  | .memory m =>
    let r := resolve m s
    load (chargeCross r) r.ea

/-- `WriteOperand(v)` of the store instructions, which never charge a page cross (spec 40_addressing_modes R126, R130). -/
def writeOperand (m : AddrMode) (v : Byte) (s : State) : State :=
  let r := resolve m s
  store r.state r.ea v

/-- `Modify(f)`: one read, then `f`, which gives the new byte and the new flags, then one write; the new byte is
returned (spec 40_addressing_modes R130, 20_memory R72). -/
def modifyOperand (dst : Dest) (f : Byte → Status → Byte × Status) (s : State) : Byte × State :=
  match dst with
  | .accumulator =>
    let r := f s.a s.p
    (r.1, (s.setP r.2).setA r.1)
  | .memory m =>
    let r := resolve m s
    let v := load r.state r.ea
    let w := f v.1 v.2.p
    (w.1, store (v.2.setP w.2) r.ea w.1)

/-- The target of JMP indirect: the pointer's high byte comes from the start of the same page when its low byte is at
the end of one (spec 40_addressing_modes R124). -/
def indirectTarget (ptr : Word) (s : State) : Word × State :=
  let lo := load s ptr
  let hi := load lo.2 ((ptr &&& 0xFF00) ||| ((ptr + 1) &&& 0x00FF))
  (mkWord hi.1 lo.1, hi.2)

/-- The target of a branch, PC being the address after its operand byte (spec 40_addressing_modes R125). -/
def relativeTarget (d : Byte) (s : State) : Word := s.pc + sext d

end Sys2Proof.Machine
end

