-- ==== Sys2Proof/Machine/Flags.lean ====
section
/-! DEFINITION. Every flag computation: SetNZ (spec 40_addressing_modes R131), AddCore, SubCore and Compare
(43_alu R171 to R173), BIT (R182), the shift cores (44_shift_rotate R200), and the flag rules of the undocumented
immediate operations (47_illegal R248 to R251).  Each is a function of bytes and flags. -/

namespace Sys2Proof.Machine

/-- `SetNZ(v)` on P: no other flag is touched (spec 40_addressing_modes R131). -/
def Status.setNZ (p : Status) (v : Byte) : Status := { p with z := v == 0, n := v.getLsbD 7 }

/-- `SetNZ(v)` on the machine. -/
def State.setNZ (s : State) (v : Byte) : State := s.setP (s.p.setNZ v)

/-- The accumulator and flags after `AddCore(m)` (spec 43_alu R171).  N, Z and V come from the binary sum even when
D is 1; the decimal correction changes only the accumulator and C. -/
def addCore (a m : Byte) (p : Status) : Byte × Status :=
  let cin := p.c.toNat
  let bin := a.toNat + m.toNat + cin
  let r8 : Byte := BitVec.ofNat 8 bin
  let flags : Status := { p with n := r8.getLsbD 7, z := r8 == 0, v := (~~~(a ^^^ m) &&& (a ^^^ r8)).getLsbD 7 }
  if p.d then
    let t := if a.toNat % 16 + m.toNat % 16 + cin > 0x09 then bin + 0x06 else bin
    if t > 0x99 then (BitVec.ofNat 8 (t + 0x60), { flags with c := true })
    else (BitVec.ofNat 8 t, { flags with c := false })
  else (r8, { flags with c := decide (bin > 0xFF) })

/-- The accumulator and flags after `SubCore(m)` (spec 43_alu R172; the low-digit correction is 90_conflicts C2's). -/
def subCore (a m : Byte) (p : Status) : Byte × Status :=
  let bw : Int := 1 - p.c.toNat
  let bin : Int := a.toNat - m.toNat - bw
  let r8 : Byte := BitVec.ofInt 8 bin
  let flags : Status := { p with n := r8.getLsbD 7, z := r8 == 0, v := ((a ^^^ m) &&& (a ^^^ r8)).getLsbD 7 }
  if p.d then
    let t := if (a.toNat % 16 : Int) - (m.toNat % 16 : Int) - bw < 0 then bin - 0x06 else bin
    if t < 0 then (BitVec.ofInt 8 (t - 0x60), { flags with c := false })
    else (BitVec.ofInt 8 t, { flags with c := true })
  else (r8, { flags with c := decide (0 ≤ bin) })

/-- The decimal penalty: one cycle when D is 1 as the addition or subtraction runs (spec 40_addressing_modes R127). -/
def State.chargeDecimal (s : State) : State := if s.p.d then s.charge 1 else s

/-- `AddCore(m)` on the machine (spec 43_alu R171). -/
def State.add (s : State) (m : Byte) : State :=
  let r := addCore s.a m s.p
  (s.chargeDecimal.setA r.1).setP r.2

/-- `SubCore(m)` on the machine (spec 43_alu R172). -/
def State.sub (s : State) (m : Byte) : State :=
  let r := subCore s.a m s.p
  (s.chargeDecimal.setA r.1).setP r.2

/-- `Compare(r, m)`: C, then N and Z of the difference (spec 43_alu R173). -/
def Status.compare (p : Status) (r m : Byte) : Status :=
  { p with c := decide (m.toNat ≤ r.toNat) }.setNZ (r - m)

/-- The flags of BIT: Z from `A & m`, N and V from bits 7 and 6 of the memory byte (spec 43_alu R182). -/
def Status.bit (p : Status) (a m : Byte) : Status :=
  { p with z := a &&& m == 0, n := m.getLsbD 7, v := m.getLsbD 6 }

/-- `AslCore(m)` (spec 44_shift_rotate R200). -/
def aslCore (m : Byte) (p : Status) : Byte × Status :=
  let r := m <<< 1
  (r, { p with c := m.getLsbD 7 }.setNZ r)

/-- `LsrCore(m)` (spec 44_shift_rotate R200). -/
def lsrCore (m : Byte) (p : Status) : Byte × Status :=
  let r := m >>> 1
  (r, { p with c := m.getLsbD 0 }.setNZ r)

/-- `RolCore(m)`: the old C enters bit 0 (spec 44_shift_rotate R200). -/
def rolCore (m : Byte) (p : Status) : Byte × Status :=
  let r := m <<< 1 ||| flagBit p.c 0
  (r, { p with c := m.getLsbD 7 }.setNZ r)

/-- `RorCore(m)`: the old C enters bit 7 (spec 44_shift_rotate R200). -/
def rorCore (m : Byte) (p : Status) : Byte × Status :=
  let r := m >>> 1 ||| flagBit p.c 7
  (r, { p with c := m.getLsbD 0 }.setNZ r)

/-- The increment of INC: N and Z of the new byte (spec 43_alu R183). -/
def incCore (m : Byte) (p : Status) : Byte × Status := (m + 1, p.setNZ (m + 1))

/-- The decrement of DEC: N and Z of the new byte (spec 43_alu R184). -/
def decCore (m : Byte) (p : Status) : Byte × Status := (m - 1, p.setNZ (m - 1))

/-- The increment inside ISC, whose flags SubCore writes (spec 47_illegal R247). -/
def incOnly (m : Byte) (p : Status) : Byte × Status := (m + 1, p)

/-- The decrement inside DCP, whose flags Compare writes (spec 47_illegal R246). -/
def decOnly (m : Byte) (p : Status) : Byte × Status := (m - 1, p)

/-- A and flags after ANC: C is a copy of N (spec 47_illegal R248). -/
def ancCore (a m : Byte) (p : Status) : Byte × Status :=
  let r := a &&& m
  (r, { p.setNZ r with c := r.getLsbD 7 })

/-- A and flags after ALR (spec 47_illegal R249). -/
def alrCore (a m : Byte) (p : Status) : Byte × Status := lsrCore (a &&& m) p

/-- A and flags after ARR: C is bit 6 of the result, V bit 6 exclusive-or bit 5, whatever D holds
(spec 47_illegal R250). -/
def arrCore (a m : Byte) (p : Status) : Byte × Status :=
  let r := (a &&& m) >>> 1 ||| flagBit p.c 7
  (r, { p.setNZ r with c := r.getLsbD 6, v := r.getLsbD 6 ^^ r.getLsbD 5 })

/-- X and flags after SBX: C says no borrow, V and the incoming C play no part (spec 47_illegal R251). -/
def sbxCore (a x m : Byte) (p : Status) : Byte × Status :=
  let t := a &&& x
  (t - m, { p with c := decide (m.toNat ≤ t.toNat) }.setNZ (t - m))

end Sys2Proof.Machine
end

