-- ==== Sys2Proof/Machine/Alu.lean ====
section
/-! DEFINITION. Add, subtract, logic, compare, increment and decrement (spec 43_alu). -/

namespace Sys2Proof.Machine

/-- ADC: `AddCore` of the operand (spec 43_alu R174). -/
def addWithCarry (src : Source) (s : State) : State :=
  let r := readOperand src s
  r.2.add r.1

/-- ADC, (zero-page,X), opcode 0x61 (spec R174). -/
def execAdcIndX (n : Byte) (s : State) : Host.Outcome State Fault Refusal := .next (addWithCarry (.memory (.indexedIndirect n)) s)

/-- ADC, zero-page, opcode 0x65 (spec R174). -/
def execAdcZp (n : Byte) (s : State) : Host.Outcome State Fault Refusal := .next (addWithCarry (.memory (.zeroPage n)) s)

/-- ADC, immediate, opcode 0x69 (spec R174). -/
def execAdcImm (n : Byte) (s : State) : Host.Outcome State Fault Refusal := .next (addWithCarry (.immediate n) s)

/-- ADC, absolute, opcode 0x6D (spec R174). -/
def execAdcAbs (nn : Word) (s : State) : Host.Outcome State Fault Refusal := .next (addWithCarry (.memory (.absolute nn)) s)

/-- ADC, (zero-page),Y, opcode 0x71 (spec R174). -/
def execAdcIndY (n : Byte) (s : State) : Host.Outcome State Fault Refusal := .next (addWithCarry (.memory (.indirectIndexed n)) s)

/-- ADC, zero-page,X, opcode 0x75 (spec R174). -/
def execAdcZpX (n : Byte) (s : State) : Host.Outcome State Fault Refusal := .next (addWithCarry (.memory (.zeroPageX n)) s)

/-- ADC, absolute,Y, opcode 0x79 (spec R174). -/
def execAdcAbsY (nn : Word) (s : State) : Host.Outcome State Fault Refusal := .next (addWithCarry (.memory (.absoluteY nn)) s)

/-- ADC, absolute,X, opcode 0x7D (spec R174). -/
def execAdcAbsX (nn : Word) (s : State) : Host.Outcome State Fault Refusal := .next (addWithCarry (.memory (.absoluteX nn)) s)

/-- SBC: `SubCore` of the operand (spec 43_alu R175). -/
def subtractWithBorrow (src : Source) (s : State) : State :=
  let r := readOperand src s
  r.2.sub r.1

/-- SBC, (zero-page,X), opcode 0xE1 (spec R175). -/
def execSbcIndX (n : Byte) (s : State) : Host.Outcome State Fault Refusal := .next (subtractWithBorrow (.memory (.indexedIndirect n)) s)

/-- SBC, zero-page, opcode 0xE5 (spec R175). -/
def execSbcZp (n : Byte) (s : State) : Host.Outcome State Fault Refusal := .next (subtractWithBorrow (.memory (.zeroPage n)) s)

/-- SBC, immediate, opcode 0xE9 (spec R175). -/
def execSbcImm (n : Byte) (s : State) : Host.Outcome State Fault Refusal := .next (subtractWithBorrow (.immediate n) s)

/-- SBC, absolute, opcode 0xED (spec R175). -/
def execSbcAbs (nn : Word) (s : State) : Host.Outcome State Fault Refusal := .next (subtractWithBorrow (.memory (.absolute nn)) s)

/-- SBC, (zero-page),Y, opcode 0xF1 (spec R175). -/
def execSbcIndY (n : Byte) (s : State) : Host.Outcome State Fault Refusal := .next (subtractWithBorrow (.memory (.indirectIndexed n)) s)

/-- SBC, zero-page,X, opcode 0xF5 (spec R175). -/
def execSbcZpX (n : Byte) (s : State) : Host.Outcome State Fault Refusal := .next (subtractWithBorrow (.memory (.zeroPageX n)) s)

/-- SBC, absolute,Y, opcode 0xF9 (spec R175). -/
def execSbcAbsY (nn : Word) (s : State) : Host.Outcome State Fault Refusal := .next (subtractWithBorrow (.memory (.absoluteY nn)) s)

/-- SBC, absolute,X, opcode 0xFD (spec R175). -/
def execSbcAbsX (nn : Word) (s : State) : Host.Outcome State Fault Refusal := .next (subtractWithBorrow (.memory (.absoluteX nn)) s)

/-- AND: A <- A & m; N and Z of it (spec 43_alu R176). -/
def andA (src : Source) (s : State) : State :=
  let r := readOperand src s
  (r.2.setA (r.2.a &&& r.1)).setNZ (r.2.a &&& r.1)

/-- AND, (zero-page,X), opcode 0x21 (spec R176). -/
def execAndIndX (n : Byte) (s : State) : Host.Outcome State Fault Refusal := .next (andA (.memory (.indexedIndirect n)) s)

/-- AND, zero-page, opcode 0x25 (spec R176). -/
def execAndZp (n : Byte) (s : State) : Host.Outcome State Fault Refusal := .next (andA (.memory (.zeroPage n)) s)

/-- AND, immediate, opcode 0x29 (spec R176). -/
def execAndImm (n : Byte) (s : State) : Host.Outcome State Fault Refusal := .next (andA (.immediate n) s)

/-- AND, absolute, opcode 0x2D (spec R176). -/
def execAndAbs (nn : Word) (s : State) : Host.Outcome State Fault Refusal := .next (andA (.memory (.absolute nn)) s)

/-- AND, (zero-page),Y, opcode 0x31 (spec R176). -/
def execAndIndY (n : Byte) (s : State) : Host.Outcome State Fault Refusal := .next (andA (.memory (.indirectIndexed n)) s)

/-- AND, zero-page,X, opcode 0x35 (spec R176). -/
def execAndZpX (n : Byte) (s : State) : Host.Outcome State Fault Refusal := .next (andA (.memory (.zeroPageX n)) s)

/-- AND, absolute,Y, opcode 0x39 (spec R176). -/
def execAndAbsY (nn : Word) (s : State) : Host.Outcome State Fault Refusal := .next (andA (.memory (.absoluteY nn)) s)

/-- AND, absolute,X, opcode 0x3D (spec R176). -/
def execAndAbsX (nn : Word) (s : State) : Host.Outcome State Fault Refusal := .next (andA (.memory (.absoluteX nn)) s)

/-- ORA: A <- A | m; N and Z of it (spec 43_alu R177). -/
def orA (src : Source) (s : State) : State :=
  let r := readOperand src s
  (r.2.setA (r.2.a ||| r.1)).setNZ (r.2.a ||| r.1)

/-- ORA, (zero-page,X), opcode 0x01 (spec R177). -/
def execOraIndX (n : Byte) (s : State) : Host.Outcome State Fault Refusal := .next (orA (.memory (.indexedIndirect n)) s)

/-- ORA, zero-page, opcode 0x05 (spec R177). -/
def execOraZp (n : Byte) (s : State) : Host.Outcome State Fault Refusal := .next (orA (.memory (.zeroPage n)) s)

/-- ORA, immediate, opcode 0x09 (spec R177). -/
def execOraImm (n : Byte) (s : State) : Host.Outcome State Fault Refusal := .next (orA (.immediate n) s)

/-- ORA, absolute, opcode 0x0D (spec R177). -/
def execOraAbs (nn : Word) (s : State) : Host.Outcome State Fault Refusal := .next (orA (.memory (.absolute nn)) s)

/-- ORA, (zero-page),Y, opcode 0x11 (spec R177). -/
def execOraIndY (n : Byte) (s : State) : Host.Outcome State Fault Refusal := .next (orA (.memory (.indirectIndexed n)) s)

/-- ORA, zero-page,X, opcode 0x15 (spec R177). -/
def execOraZpX (n : Byte) (s : State) : Host.Outcome State Fault Refusal := .next (orA (.memory (.zeroPageX n)) s)

/-- ORA, absolute,Y, opcode 0x19 (spec R177). -/
def execOraAbsY (nn : Word) (s : State) : Host.Outcome State Fault Refusal := .next (orA (.memory (.absoluteY nn)) s)

/-- ORA, absolute,X, opcode 0x1D (spec R177). -/
def execOraAbsX (nn : Word) (s : State) : Host.Outcome State Fault Refusal := .next (orA (.memory (.absoluteX nn)) s)

/-- EOR: A <- A ^ m; N and Z of it (spec 43_alu R178). -/
def eorA (src : Source) (s : State) : State :=
  let r := readOperand src s
  (r.2.setA (r.2.a ^^^ r.1)).setNZ (r.2.a ^^^ r.1)

/-- EOR, (zero-page,X), opcode 0x41 (spec R178). -/
def execEorIndX (n : Byte) (s : State) : Host.Outcome State Fault Refusal := .next (eorA (.memory (.indexedIndirect n)) s)

/-- EOR, zero-page, opcode 0x45 (spec R178). -/
def execEorZp (n : Byte) (s : State) : Host.Outcome State Fault Refusal := .next (eorA (.memory (.zeroPage n)) s)

/-- EOR, immediate, opcode 0x49 (spec R178). -/
def execEorImm (n : Byte) (s : State) : Host.Outcome State Fault Refusal := .next (eorA (.immediate n) s)

/-- EOR, absolute, opcode 0x4D (spec R178). -/
def execEorAbs (nn : Word) (s : State) : Host.Outcome State Fault Refusal := .next (eorA (.memory (.absolute nn)) s)

/-- EOR, (zero-page),Y, opcode 0x51 (spec R178). -/
def execEorIndY (n : Byte) (s : State) : Host.Outcome State Fault Refusal := .next (eorA (.memory (.indirectIndexed n)) s)

/-- EOR, zero-page,X, opcode 0x55 (spec R178). -/
def execEorZpX (n : Byte) (s : State) : Host.Outcome State Fault Refusal := .next (eorA (.memory (.zeroPageX n)) s)

/-- EOR, absolute,Y, opcode 0x59 (spec R178). -/
def execEorAbsY (nn : Word) (s : State) : Host.Outcome State Fault Refusal := .next (eorA (.memory (.absoluteY nn)) s)

/-- EOR, absolute,X, opcode 0x5D (spec R178). -/
def execEorAbsX (nn : Word) (s : State) : Host.Outcome State Fault Refusal := .next (eorA (.memory (.absoluteX nn)) s)

/-- CMP: A is compared with the operand (spec 43_alu R179). -/
def compareA (src : Source) (s : State) : State :=
  let r := readOperand src s
  r.2.setP (r.2.p.compare r.2.a r.1)

/-- CMP, (zero-page,X), opcode 0xC1 (spec R179). -/
def execCmpIndX (n : Byte) (s : State) : Host.Outcome State Fault Refusal := .next (compareA (.memory (.indexedIndirect n)) s)

/-- CMP, zero-page, opcode 0xC5 (spec R179). -/
def execCmpZp (n : Byte) (s : State) : Host.Outcome State Fault Refusal := .next (compareA (.memory (.zeroPage n)) s)

/-- CMP, immediate, opcode 0xC9 (spec R179). -/
def execCmpImm (n : Byte) (s : State) : Host.Outcome State Fault Refusal := .next (compareA (.immediate n) s)

/-- CMP, absolute, opcode 0xCD (spec R179). -/
def execCmpAbs (nn : Word) (s : State) : Host.Outcome State Fault Refusal := .next (compareA (.memory (.absolute nn)) s)

/-- CMP, (zero-page),Y, opcode 0xD1 (spec R179). -/
def execCmpIndY (n : Byte) (s : State) : Host.Outcome State Fault Refusal := .next (compareA (.memory (.indirectIndexed n)) s)

/-- CMP, zero-page,X, opcode 0xD5 (spec R179). -/
def execCmpZpX (n : Byte) (s : State) : Host.Outcome State Fault Refusal := .next (compareA (.memory (.zeroPageX n)) s)

/-- CMP, absolute,Y, opcode 0xD9 (spec R179). -/
def execCmpAbsY (nn : Word) (s : State) : Host.Outcome State Fault Refusal := .next (compareA (.memory (.absoluteY nn)) s)

/-- CMP, absolute,X, opcode 0xDD (spec R179). -/
def execCmpAbsX (nn : Word) (s : State) : Host.Outcome State Fault Refusal := .next (compareA (.memory (.absoluteX nn)) s)

/-- CPX: X is compared with the operand (spec 43_alu R180). -/
def compareX (src : Source) (s : State) : State :=
  let r := readOperand src s
  r.2.setP (r.2.p.compare r.2.x r.1)

/-- CPX, immediate, opcode 0xE0 (spec R180). -/
def execCpxImm (n : Byte) (s : State) : Host.Outcome State Fault Refusal := .next (compareX (.immediate n) s)

/-- CPX, zero-page, opcode 0xE4 (spec R180). -/
def execCpxZp (n : Byte) (s : State) : Host.Outcome State Fault Refusal := .next (compareX (.memory (.zeroPage n)) s)

/-- CPX, absolute, opcode 0xEC (spec R180). -/
def execCpxAbs (nn : Word) (s : State) : Host.Outcome State Fault Refusal := .next (compareX (.memory (.absolute nn)) s)

/-- CPY: Y is compared with the operand (spec 43_alu R181). -/
def compareY (src : Source) (s : State) : State :=
  let r := readOperand src s
  r.2.setP (r.2.p.compare r.2.y r.1)

/-- CPY, immediate, opcode 0xC0 (spec R181). -/
def execCpyImm (n : Byte) (s : State) : Host.Outcome State Fault Refusal := .next (compareY (.immediate n) s)

/-- CPY, zero-page, opcode 0xC4 (spec R181). -/
def execCpyZp (n : Byte) (s : State) : Host.Outcome State Fault Refusal := .next (compareY (.memory (.zeroPage n)) s)

/-- CPY, absolute, opcode 0xCC (spec R181). -/
def execCpyAbs (nn : Word) (s : State) : Host.Outcome State Fault Refusal := .next (compareY (.memory (.absolute nn)) s)

/-- BIT: the operand is tested against A (spec 43_alu R182). -/
def bitTest (src : Source) (s : State) : State :=
  let r := readOperand src s
  r.2.setP (r.2.p.bit r.2.a r.1)

/-- BIT, zero-page, opcode 0x24 (spec R182). -/
def execBitZp (n : Byte) (s : State) : Host.Outcome State Fault Refusal := .next (bitTest (.memory (.zeroPage n)) s)

/-- BIT, absolute, opcode 0x2C (spec R182). -/
def execBitAbs (nn : Word) (s : State) : Host.Outcome State Fault Refusal := .next (bitTest (.memory (.absolute nn)) s)

/-- INC: the operand plus 1, in place (spec 43_alu R183). -/
def incrementMemory (dst : Dest) (s : State) : State :=
  (modifyOperand dst incCore s).2

/-- INC, zero-page, opcode 0xE6 (spec R183). -/
def execIncZp (n : Byte) (s : State) : Host.Outcome State Fault Refusal := .next (incrementMemory (.memory (.zeroPage n)) s)

/-- INC, absolute, opcode 0xEE (spec R183). -/
def execIncAbs (nn : Word) (s : State) : Host.Outcome State Fault Refusal := .next (incrementMemory (.memory (.absolute nn)) s)

/-- INC, zero-page,X, opcode 0xF6 (spec R183). -/
def execIncZpX (n : Byte) (s : State) : Host.Outcome State Fault Refusal := .next (incrementMemory (.memory (.zeroPageX n)) s)

/-- INC, absolute,X, opcode 0xFE (spec R183). -/
def execIncAbsX (nn : Word) (s : State) : Host.Outcome State Fault Refusal := .next (incrementMemory (.memory (.absoluteX nn)) s)

/-- DEC: the operand minus 1, in place (spec 43_alu R184). -/
def decrementMemory (dst : Dest) (s : State) : State :=
  (modifyOperand dst decCore s).2

/-- DEC, zero-page, opcode 0xC6 (spec R184). -/
def execDecZp (n : Byte) (s : State) : Host.Outcome State Fault Refusal := .next (decrementMemory (.memory (.zeroPage n)) s)

/-- DEC, absolute, opcode 0xCE (spec R184). -/
def execDecAbs (nn : Word) (s : State) : Host.Outcome State Fault Refusal := .next (decrementMemory (.memory (.absolute nn)) s)

/-- DEC, zero-page,X, opcode 0xD6 (spec R184). -/
def execDecZpX (n : Byte) (s : State) : Host.Outcome State Fault Refusal := .next (decrementMemory (.memory (.zeroPageX n)) s)

/-- DEC, absolute,X, opcode 0xDE (spec R184). -/
def execDecAbsX (nn : Word) (s : State) : Host.Outcome State Fault Refusal := .next (decrementMemory (.memory (.absoluteX nn)) s)

/-- INX: X <- X + 1; N and Z of it (spec 43_alu R185). -/
def execInx (s : State) : Host.Outcome State Fault Refusal :=
  .next ((s.setX (s.x + 1)).setNZ (s.x + 1))

/-- INY: Y <- Y + 1; N and Z of it (spec 43_alu R186). -/
def execIny (s : State) : Host.Outcome State Fault Refusal :=
  .next ((s.setY (s.y + 1)).setNZ (s.y + 1))

/-- DEX: X <- X - 1; N and Z of it (spec 43_alu R187). -/
def execDex (s : State) : Host.Outcome State Fault Refusal :=
  .next ((s.setX (s.x - 1)).setNZ (s.x - 1))

/-- DEY: Y <- Y - 1; N and Z of it (spec 43_alu R188). -/
def execDey (s : State) : Host.Outcome State Fault Refusal :=
  .next ((s.setY (s.y - 1)).setNZ (s.y - 1))

end Sys2Proof.Machine
end

