-- ==== Sys2Proof/Machine/Control.lean ====
section
/-! DEFINITION. Jumps, subroutines, branches, BRK and RTI (spec 45_control). -/

namespace Sys2Proof.Machine

/-- JMP, absolute, opcode 0x4C (spec R210). -/
def execJmpAbs (nn : Word) (s : State) : Host.Outcome State Fault Refusal := .next (s.setPc nn)

/-- JMP, (absolute) indirect, opcode 0x6C (spec R211). -/
def execJmpInd (ptr : Word) (s : State) : Host.Outcome State Fault Refusal := 
  let t := indirectTarget ptr s
  .next (t.2.setPc t.1)

/-- JSR: the address of its last byte is pushed, high byte first, then PC <- the target (spec 45_control R212). -/
def execJsr (nn : Word) (s : State) : Host.Outcome State Fault Refusal :=
  let ret := s.pc - 1
  let s1 := push s (hiByte ret)
  let s2 := push s1 (loByte ret)
  .next (s2.setPc nn)

/-- RTS: PC <- the pulled address plus 1 (spec 45_control R213). -/
def execRts (s : State) : Host.Outcome State Fault Refusal :=
  let lo := pull s
  let hi := pull lo.2
  .next (hi.2.setPc (mkWord hi.1 lo.1 + 1))

/-- `Branch(cond)`: a taken branch charges 1, and 1 more when its target lies in another page than the next
instruction (spec 45_control R214, 40_addressing_modes R128). -/
def branch (cond : Bool) (d : Byte) (s : State) : State :=
  let target := relativeTarget d s
  if cond then
    let s1 := s.charge 1
    let s2 := if pageDiffers s.pc target then s1.charge 1 else s1
    s2.setPc target
  else s

/-- BPL: branch if N = 0 (spec 45_control R215). -/
def execBpl (d : Byte) (s : State) : Host.Outcome State Fault Refusal :=
  .next (branch (!s.p.n) d s)

/-- BMI: branch if N = 1 (spec 45_control R216). -/
def execBmi (d : Byte) (s : State) : Host.Outcome State Fault Refusal :=
  .next (branch (s.p.n) d s)

/-- BVC: branch if V = 0 (spec 45_control R217). -/
def execBvc (d : Byte) (s : State) : Host.Outcome State Fault Refusal :=
  .next (branch (!s.p.v) d s)

/-- BVS: branch if V = 1 (spec 45_control R218). -/
def execBvs (d : Byte) (s : State) : Host.Outcome State Fault Refusal :=
  .next (branch (s.p.v) d s)

/-- BCC: branch if C = 0 (spec 45_control R219). -/
def execBcc (d : Byte) (s : State) : Host.Outcome State Fault Refusal :=
  .next (branch (!s.p.c) d s)

/-- BCS: branch if C = 1 (spec 45_control R220). -/
def execBcs (d : Byte) (s : State) : Host.Outcome State Fault Refusal :=
  .next (branch (s.p.c) d s)

/-- BNE: branch if Z = 0 (spec 45_control R221). -/
def execBne (d : Byte) (s : State) : Host.Outcome State Fault Refusal :=
  .next (branch (!s.p.z) d s)

/-- BEQ: branch if Z = 1 (spec 45_control R222). -/
def execBeq (d : Byte) (s : State) : Host.Outcome State Fault Refusal :=
  .next (branch (s.p.z) d s)

/-- BRK: the signature byte is passed over without a read, then the interrupt entry with the Break bit pushed as 1, whatever I
holds (spec 45_control R223). -/
def execBrk (s : State) : Host.Outcome State Fault Refusal :=
  .next (interruptEntry true (skipByte s))

/-- RTI: P, PCL and PCH are pulled (spec 45_control R224). -/
def execRti (s : State) : Host.Outcome State Fault Refusal :=
  .next (returnFromInterrupt s)

end Sys2Proof.Machine
end

