-- ==== Sys2Proof/Machine/FlagOps.lean ====
section
/-! DEFINITION. Flag instructions and the documented NOP (spec 46_flags_nop). -/

namespace Sys2Proof.Machine

/-- CLC: C <- 0, no other flag (spec 46_flags_nop R230). -/
def execClc (s : State) : Host.Outcome State Fault Refusal :=
  .next (s.setP { s.p with c := false })

/-- SEC: C <- 1, no other flag (spec 46_flags_nop R231). -/
def execSec (s : State) : Host.Outcome State Fault Refusal :=
  .next (s.setP { s.p with c := true })

/-- CLI: I <- 0, no other flag (spec 46_flags_nop R232). -/
def execCli (s : State) : Host.Outcome State Fault Refusal :=
  .next (s.setP { s.p with i := false })

/-- SEI: I <- 1, no other flag (spec 46_flags_nop R233). -/
def execSei (s : State) : Host.Outcome State Fault Refusal :=
  .next (s.setP { s.p with i := true })

/-- CLD: D <- 0, no other flag (spec 46_flags_nop R234). -/
def execCld (s : State) : Host.Outcome State Fault Refusal :=
  .next (s.setP { s.p with d := false })

/-- SED: D <- 1, no other flag (spec 46_flags_nop R235). -/
def execSed (s : State) : Host.Outcome State Fault Refusal :=
  .next (s.setP { s.p with d := true })

/-- CLV: V <- 0, no other flag (spec 46_flags_nop R236). -/
def execClv (s : State) : Host.Outcome State Fault Refusal :=
  .next (s.setP { s.p with v := false })

/-- NOP, opcode 0xEA: only PC has advanced, with the fetch (spec 46_flags_nop R237). -/
def execNop (s : State) : Host.Outcome State Fault Refusal := .next s

end Sys2Proof.Machine
end

