-- ==== Sys2Proof/Machine/LoadStore.lean ====
section
/-! DEFINITION. Loads, stores and register transfers (spec 41_load_store_transfer). -/

namespace Sys2Proof.Machine

/-- LDA: A <- the operand; N and Z of it (spec 41_load_store_transfer R140). -/
def loadA (src : Source) (s : State) : State :=
  let r := readOperand src s
  (r.2.setA r.1).setNZ r.1

/-- LDA, (zero-page,X), opcode 0xA1 (spec R140). -/
def execLdaIndX (n : Byte) (s : State) : Host.Outcome State Fault Refusal := .next (loadA (.memory (.indexedIndirect n)) s)

/-- LDA, zero-page, opcode 0xA5 (spec R140). -/
def execLdaZp (n : Byte) (s : State) : Host.Outcome State Fault Refusal := .next (loadA (.memory (.zeroPage n)) s)

/-- LDA, immediate, opcode 0xA9 (spec R140). -/
def execLdaImm (n : Byte) (s : State) : Host.Outcome State Fault Refusal := .next (loadA (.immediate n) s)

/-- LDA, absolute, opcode 0xAD (spec R140). -/
def execLdaAbs (nn : Word) (s : State) : Host.Outcome State Fault Refusal := .next (loadA (.memory (.absolute nn)) s)

/-- LDA, (zero-page),Y, opcode 0xB1 (spec R140). -/
def execLdaIndY (n : Byte) (s : State) : Host.Outcome State Fault Refusal := .next (loadA (.memory (.indirectIndexed n)) s)

/-- LDA, zero-page,X, opcode 0xB5 (spec R140). -/
def execLdaZpX (n : Byte) (s : State) : Host.Outcome State Fault Refusal := .next (loadA (.memory (.zeroPageX n)) s)

/-- LDA, absolute,Y, opcode 0xB9 (spec R140). -/
def execLdaAbsY (nn : Word) (s : State) : Host.Outcome State Fault Refusal := .next (loadA (.memory (.absoluteY nn)) s)

/-- LDA, absolute,X, opcode 0xBD (spec R140). -/
def execLdaAbsX (nn : Word) (s : State) : Host.Outcome State Fault Refusal := .next (loadA (.memory (.absoluteX nn)) s)

/-- LDX: X <- the operand; N and Z of it (spec 41_load_store_transfer R141). -/
def loadX (src : Source) (s : State) : State :=
  let r := readOperand src s
  (r.2.setX r.1).setNZ r.1

/-- LDX, immediate, opcode 0xA2 (spec R141). -/
def execLdxImm (n : Byte) (s : State) : Host.Outcome State Fault Refusal := .next (loadX (.immediate n) s)

/-- LDX, zero-page, opcode 0xA6 (spec R141). -/
def execLdxZp (n : Byte) (s : State) : Host.Outcome State Fault Refusal := .next (loadX (.memory (.zeroPage n)) s)

/-- LDX, absolute, opcode 0xAE (spec R141). -/
def execLdxAbs (nn : Word) (s : State) : Host.Outcome State Fault Refusal := .next (loadX (.memory (.absolute nn)) s)

/-- LDX, zero-page,Y, opcode 0xB6 (spec R141). -/
def execLdxZpY (n : Byte) (s : State) : Host.Outcome State Fault Refusal := .next (loadX (.memory (.zeroPageY n)) s)

/-- LDX, absolute,Y, opcode 0xBE (spec R141). -/
def execLdxAbsY (nn : Word) (s : State) : Host.Outcome State Fault Refusal := .next (loadX (.memory (.absoluteY nn)) s)

/-- LDY: Y <- the operand; N and Z of it (spec 41_load_store_transfer R142). -/
def loadY (src : Source) (s : State) : State :=
  let r := readOperand src s
  (r.2.setY r.1).setNZ r.1

/-- LDY, immediate, opcode 0xA0 (spec R142). -/
def execLdyImm (n : Byte) (s : State) : Host.Outcome State Fault Refusal := .next (loadY (.immediate n) s)

/-- LDY, zero-page, opcode 0xA4 (spec R142). -/
def execLdyZp (n : Byte) (s : State) : Host.Outcome State Fault Refusal := .next (loadY (.memory (.zeroPage n)) s)

/-- LDY, absolute, opcode 0xAC (spec R142). -/
def execLdyAbs (nn : Word) (s : State) : Host.Outcome State Fault Refusal := .next (loadY (.memory (.absolute nn)) s)

/-- LDY, zero-page,X, opcode 0xB4 (spec R142). -/
def execLdyZpX (n : Byte) (s : State) : Host.Outcome State Fault Refusal := .next (loadY (.memory (.zeroPageX n)) s)

/-- LDY, absolute,X, opcode 0xBC (spec R142). -/
def execLdyAbsX (nn : Word) (s : State) : Host.Outcome State Fault Refusal := .next (loadY (.memory (.absoluteX nn)) s)

/-- STA: A is stored; no flag changes (spec 41_load_store_transfer R143). -/
def storeA (m : AddrMode) (s : State) : State :=
  writeOperand m s.a s

/-- STA, (zero-page,X), opcode 0x81 (spec R143). -/
def execStaIndX (n : Byte) (s : State) : Host.Outcome State Fault Refusal := .next (storeA (.indexedIndirect n) s)

/-- STA, zero-page, opcode 0x85 (spec R143). -/
def execStaZp (n : Byte) (s : State) : Host.Outcome State Fault Refusal := .next (storeA (.zeroPage n) s)

/-- STA, absolute, opcode 0x8D (spec R143). -/
def execStaAbs (nn : Word) (s : State) : Host.Outcome State Fault Refusal := .next (storeA (.absolute nn) s)

/-- STA, (zero-page),Y, opcode 0x91 (spec R143). -/
def execStaIndY (n : Byte) (s : State) : Host.Outcome State Fault Refusal := .next (storeA (.indirectIndexed n) s)

/-- STA, zero-page,X, opcode 0x95 (spec R143). -/
def execStaZpX (n : Byte) (s : State) : Host.Outcome State Fault Refusal := .next (storeA (.zeroPageX n) s)

/-- STA, absolute,Y, opcode 0x99 (spec R143). -/
def execStaAbsY (nn : Word) (s : State) : Host.Outcome State Fault Refusal := .next (storeA (.absoluteY nn) s)

/-- STA, absolute,X, opcode 0x9D (spec R143). -/
def execStaAbsX (nn : Word) (s : State) : Host.Outcome State Fault Refusal := .next (storeA (.absoluteX nn) s)

/-- STX: X is stored; no flag changes (spec 41_load_store_transfer R144). -/
def storeX (m : AddrMode) (s : State) : State :=
  writeOperand m s.x s

/-- STX, zero-page, opcode 0x86 (spec R144). -/
def execStxZp (n : Byte) (s : State) : Host.Outcome State Fault Refusal := .next (storeX (.zeroPage n) s)

/-- STX, absolute, opcode 0x8E (spec R144). -/
def execStxAbs (nn : Word) (s : State) : Host.Outcome State Fault Refusal := .next (storeX (.absolute nn) s)

/-- STX, zero-page,Y, opcode 0x96 (spec R144). -/
def execStxZpY (n : Byte) (s : State) : Host.Outcome State Fault Refusal := .next (storeX (.zeroPageY n) s)

/-- STY: Y is stored; no flag changes (spec 41_load_store_transfer R145). -/
def storeY (m : AddrMode) (s : State) : State :=
  writeOperand m s.y s

/-- STY, zero-page, opcode 0x84 (spec R145). -/
def execStyZp (n : Byte) (s : State) : Host.Outcome State Fault Refusal := .next (storeY (.zeroPage n) s)

/-- STY, absolute, opcode 0x8C (spec R145). -/
def execStyAbs (nn : Word) (s : State) : Host.Outcome State Fault Refusal := .next (storeY (.absolute nn) s)

/-- STY, zero-page,X, opcode 0x94 (spec R145). -/
def execStyZpX (n : Byte) (s : State) : Host.Outcome State Fault Refusal := .next (storeY (.zeroPageX n) s)

/-- TAX: X <- A; N and Z of it (spec 41_load_store_transfer R146). -/
def execTax (s : State) : Host.Outcome State Fault Refusal := .next ((s.setX s.a).setNZ s.a)

/-- TAY: Y <- A; N and Z of it (spec 41_load_store_transfer R147). -/
def execTay (s : State) : Host.Outcome State Fault Refusal := .next ((s.setY s.a).setNZ s.a)

/-- TXA: A <- X; N and Z of it (spec 41_load_store_transfer R148). -/
def execTxa (s : State) : Host.Outcome State Fault Refusal := .next ((s.setA s.x).setNZ s.x)

/-- TYA: A <- Y; N and Z of it (spec 41_load_store_transfer R149). -/
def execTya (s : State) : Host.Outcome State Fault Refusal := .next ((s.setA s.y).setNZ s.y)

/-- TSX: X <- S; N and Z of it (spec 41_load_store_transfer R150). -/
def execTsx (s : State) : Host.Outcome State Fault Refusal := .next ((s.setX s.sp).setNZ s.sp)

/-- TXS: S <- X; no flag changes (spec 41_load_store_transfer R151). -/
def execTxs (s : State) : Host.Outcome State Fault Refusal := .next (s.setSp s.x)

end Sys2Proof.Machine
end

