-- ==== Sys2Proof/Machine/Shift.lean ====
section
/-! DEFINITION. Shifts and rotates (spec 44_shift_rotate). -/

namespace Sys2Proof.Machine

/-- ASL: one bit left, in place (spec 44_shift_rotate R201). -/
def shiftLeft (dst : Dest) (s : State) : State :=
  (modifyOperand dst aslCore s).2

/-- ASL, zero-page, opcode 0x06 (spec R201). -/
def execAslZp (n : Byte) (s : State) : Host.Outcome State Fault Refusal := .next (shiftLeft (.memory (.zeroPage n)) s)

/-- ASL, accumulator, opcode 0x0A (spec R201). -/
def execAslAcc (s : State) : Host.Outcome State Fault Refusal := .next (shiftLeft .accumulator s)

/-- ASL, absolute, opcode 0x0E (spec R201). -/
def execAslAbs (nn : Word) (s : State) : Host.Outcome State Fault Refusal := .next (shiftLeft (.memory (.absolute nn)) s)

/-- ASL, zero-page,X, opcode 0x16 (spec R201). -/
def execAslZpX (n : Byte) (s : State) : Host.Outcome State Fault Refusal := .next (shiftLeft (.memory (.zeroPageX n)) s)

/-- ASL, absolute,X, opcode 0x1E (spec R201). -/
def execAslAbsX (nn : Word) (s : State) : Host.Outcome State Fault Refusal := .next (shiftLeft (.memory (.absoluteX nn)) s)

/-- LSR: one bit right, in place (spec 44_shift_rotate R202). -/
def shiftRight (dst : Dest) (s : State) : State :=
  (modifyOperand dst lsrCore s).2

/-- LSR, zero-page, opcode 0x46 (spec R202). -/
def execLsrZp (n : Byte) (s : State) : Host.Outcome State Fault Refusal := .next (shiftRight (.memory (.zeroPage n)) s)

/-- LSR, accumulator, opcode 0x4A (spec R202). -/
def execLsrAcc (s : State) : Host.Outcome State Fault Refusal := .next (shiftRight .accumulator s)

/-- LSR, absolute, opcode 0x4E (spec R202). -/
def execLsrAbs (nn : Word) (s : State) : Host.Outcome State Fault Refusal := .next (shiftRight (.memory (.absolute nn)) s)

/-- LSR, zero-page,X, opcode 0x56 (spec R202). -/
def execLsrZpX (n : Byte) (s : State) : Host.Outcome State Fault Refusal := .next (shiftRight (.memory (.zeroPageX n)) s)

/-- LSR, absolute,X, opcode 0x5E (spec R202). -/
def execLsrAbsX (nn : Word) (s : State) : Host.Outcome State Fault Refusal := .next (shiftRight (.memory (.absoluteX nn)) s)

/-- ROL: one bit left through C, in place (spec 44_shift_rotate R203). -/
def rotateLeft (dst : Dest) (s : State) : State :=
  (modifyOperand dst rolCore s).2

/-- ROL, zero-page, opcode 0x26 (spec R203). -/
def execRolZp (n : Byte) (s : State) : Host.Outcome State Fault Refusal := .next (rotateLeft (.memory (.zeroPage n)) s)

/-- ROL, accumulator, opcode 0x2A (spec R203). -/
def execRolAcc (s : State) : Host.Outcome State Fault Refusal := .next (rotateLeft .accumulator s)

/-- ROL, absolute, opcode 0x2E (spec R203). -/
def execRolAbs (nn : Word) (s : State) : Host.Outcome State Fault Refusal := .next (rotateLeft (.memory (.absolute nn)) s)

/-- ROL, zero-page,X, opcode 0x36 (spec R203). -/
def execRolZpX (n : Byte) (s : State) : Host.Outcome State Fault Refusal := .next (rotateLeft (.memory (.zeroPageX n)) s)

/-- ROL, absolute,X, opcode 0x3E (spec R203). -/
def execRolAbsX (nn : Word) (s : State) : Host.Outcome State Fault Refusal := .next (rotateLeft (.memory (.absoluteX nn)) s)

/-- ROR: one bit right through C, in place (spec 44_shift_rotate R204). -/
def rotateRight (dst : Dest) (s : State) : State :=
  (modifyOperand dst rorCore s).2

/-- ROR, zero-page, opcode 0x66 (spec R204). -/
def execRorZp (n : Byte) (s : State) : Host.Outcome State Fault Refusal := .next (rotateRight (.memory (.zeroPage n)) s)

/-- ROR, accumulator, opcode 0x6A (spec R204). -/
def execRorAcc (s : State) : Host.Outcome State Fault Refusal := .next (rotateRight .accumulator s)

/-- ROR, absolute, opcode 0x6E (spec R204). -/
def execRorAbs (nn : Word) (s : State) : Host.Outcome State Fault Refusal := .next (rotateRight (.memory (.absolute nn)) s)

/-- ROR, zero-page,X, opcode 0x76 (spec R204). -/
def execRorZpX (n : Byte) (s : State) : Host.Outcome State Fault Refusal := .next (rotateRight (.memory (.zeroPageX n)) s)

/-- ROR, absolute,X, opcode 0x7E (spec R204). -/
def execRorAbsX (nn : Word) (s : State) : Host.Outcome State Fault Refusal := .next (rotateRight (.memory (.absoluteX nn)) s)

end Sys2Proof.Machine
end

