-- ==== Sys2Proof/Machine/Stack.lean ====
section
/-! DEFINITION. Stack operations (spec 42_stack). -/

namespace Sys2Proof.Machine

/-- PHA: A is pushed (spec 42_stack R162). -/
def execPha (s : State) : Host.Outcome State Fault Refusal :=
  .next (push s s.a)

/-- PHP: P is pushed with bits 5 and 4 set; P is unchanged (spec 42_stack R163). -/
def execPhp (s : State) : Host.Outcome State Fault Refusal :=
  .next (push s (s.p.toByte ||| 0x30))

/-- PLA: A is pulled; N and Z of it (spec 42_stack R164). -/
def execPla (s : State) : Host.Outcome State Fault Refusal :=
  let v := pull s
  .next ((v.2.setA v.1).setNZ v.1)

/-- PLP: P is pulled, with bit 5 reading 1 and the stored B cleared (spec 42_stack R165). -/
def execPlp (s : State) : Host.Outcome State Fault Refusal :=
  let v := pull s
  .next (v.2.setP (Status.ofPulled v.1))

end Sys2Proof.Machine
end

