-- ==== Sys2Proof/Machine/Undocumented.lean ====
section
/-! DEFINITION. Undocumented operations, the undocumented NOPs, JAM and the unstable slots (spec 47_illegal). -/

namespace Sys2Proof.Machine

/-- SLO: ASL of the operand, then A <- A | r (spec 47_illegal R240). -/
def shiftLeftOr (m : AddrMode) (s : State) : State :=
  let r := modifyOperand (.memory m) aslCore s
  (r.2.setA (r.2.a ||| r.1)).setNZ (r.2.a ||| r.1)

/-- SLO, (zero-page,X), opcode 0x03 (spec R240). -/
def execSloIndX (n : Byte) (s : State) : Host.Outcome State Fault Refusal := .next (shiftLeftOr (.indexedIndirect n) s)

/-- SLO, zero-page, opcode 0x07 (spec R240). -/
def execSloZp (n : Byte) (s : State) : Host.Outcome State Fault Refusal := .next (shiftLeftOr (.zeroPage n) s)

/-- SLO, absolute, opcode 0x0F (spec R240). -/
def execSloAbs (nn : Word) (s : State) : Host.Outcome State Fault Refusal := .next (shiftLeftOr (.absolute nn) s)

/-- SLO, (zero-page),Y, opcode 0x13 (spec R240). -/
def execSloIndY (n : Byte) (s : State) : Host.Outcome State Fault Refusal := .next (shiftLeftOr (.indirectIndexed n) s)

/-- SLO, zero-page,X, opcode 0x17 (spec R240). -/
def execSloZpX (n : Byte) (s : State) : Host.Outcome State Fault Refusal := .next (shiftLeftOr (.zeroPageX n) s)

/-- SLO, absolute,Y, opcode 0x1B (spec R240). -/
def execSloAbsY (nn : Word) (s : State) : Host.Outcome State Fault Refusal := .next (shiftLeftOr (.absoluteY nn) s)

/-- SLO, absolute,X, opcode 0x1F (spec R240). -/
def execSloAbsX (nn : Word) (s : State) : Host.Outcome State Fault Refusal := .next (shiftLeftOr (.absoluteX nn) s)

/-- RLA: ROL of the operand, then A <- A & r (spec 47_illegal R241). -/
def rotateLeftAnd (m : AddrMode) (s : State) : State :=
  let r := modifyOperand (.memory m) rolCore s
  (r.2.setA (r.2.a &&& r.1)).setNZ (r.2.a &&& r.1)

/-- RLA, (zero-page,X), opcode 0x23 (spec R241). -/
def execRlaIndX (n : Byte) (s : State) : Host.Outcome State Fault Refusal := .next (rotateLeftAnd (.indexedIndirect n) s)

/-- RLA, zero-page, opcode 0x27 (spec R241). -/
def execRlaZp (n : Byte) (s : State) : Host.Outcome State Fault Refusal := .next (rotateLeftAnd (.zeroPage n) s)

/-- RLA, absolute, opcode 0x2F (spec R241). -/
def execRlaAbs (nn : Word) (s : State) : Host.Outcome State Fault Refusal := .next (rotateLeftAnd (.absolute nn) s)

/-- RLA, (zero-page),Y, opcode 0x33 (spec R241). -/
def execRlaIndY (n : Byte) (s : State) : Host.Outcome State Fault Refusal := .next (rotateLeftAnd (.indirectIndexed n) s)

/-- RLA, zero-page,X, opcode 0x37 (spec R241). -/
def execRlaZpX (n : Byte) (s : State) : Host.Outcome State Fault Refusal := .next (rotateLeftAnd (.zeroPageX n) s)

/-- RLA, absolute,Y, opcode 0x3B (spec R241). -/
def execRlaAbsY (nn : Word) (s : State) : Host.Outcome State Fault Refusal := .next (rotateLeftAnd (.absoluteY nn) s)

/-- RLA, absolute,X, opcode 0x3F (spec R241). -/
def execRlaAbsX (nn : Word) (s : State) : Host.Outcome State Fault Refusal := .next (rotateLeftAnd (.absoluteX nn) s)

/-- SRE: LSR of the operand, then A <- A ^ r (spec 47_illegal R242). -/
def shiftRightEor (m : AddrMode) (s : State) : State :=
  let r := modifyOperand (.memory m) lsrCore s
  (r.2.setA (r.2.a ^^^ r.1)).setNZ (r.2.a ^^^ r.1)

/-- SRE, (zero-page,X), opcode 0x43 (spec R242). -/
def execSreIndX (n : Byte) (s : State) : Host.Outcome State Fault Refusal := .next (shiftRightEor (.indexedIndirect n) s)

/-- SRE, zero-page, opcode 0x47 (spec R242). -/
def execSreZp (n : Byte) (s : State) : Host.Outcome State Fault Refusal := .next (shiftRightEor (.zeroPage n) s)

/-- SRE, absolute, opcode 0x4F (spec R242). -/
def execSreAbs (nn : Word) (s : State) : Host.Outcome State Fault Refusal := .next (shiftRightEor (.absolute nn) s)

/-- SRE, (zero-page),Y, opcode 0x53 (spec R242). -/
def execSreIndY (n : Byte) (s : State) : Host.Outcome State Fault Refusal := .next (shiftRightEor (.indirectIndexed n) s)

/-- SRE, zero-page,X, opcode 0x57 (spec R242). -/
def execSreZpX (n : Byte) (s : State) : Host.Outcome State Fault Refusal := .next (shiftRightEor (.zeroPageX n) s)

/-- SRE, absolute,Y, opcode 0x5B (spec R242). -/
def execSreAbsY (nn : Word) (s : State) : Host.Outcome State Fault Refusal := .next (shiftRightEor (.absoluteY nn) s)

/-- SRE, absolute,X, opcode 0x5F (spec R242). -/
def execSreAbsX (nn : Word) (s : State) : Host.Outcome State Fault Refusal := .next (shiftRightEor (.absoluteX nn) s)

/-- RRA: ROR of the operand, then `AddCore` with the carry the rotate produced (spec 47_illegal R243). -/
def rotateRightAdd (m : AddrMode) (s : State) : State :=
  let r := modifyOperand (.memory m) rorCore s
  r.2.add r.1

/-- RRA, (zero-page,X), opcode 0x63 (spec R243). -/
def execRraIndX (n : Byte) (s : State) : Host.Outcome State Fault Refusal := .next (rotateRightAdd (.indexedIndirect n) s)

/-- RRA, zero-page, opcode 0x67 (spec R243). -/
def execRraZp (n : Byte) (s : State) : Host.Outcome State Fault Refusal := .next (rotateRightAdd (.zeroPage n) s)

/-- RRA, absolute, opcode 0x6F (spec R243). -/
def execRraAbs (nn : Word) (s : State) : Host.Outcome State Fault Refusal := .next (rotateRightAdd (.absolute nn) s)

/-- RRA, (zero-page),Y, opcode 0x73 (spec R243). -/
def execRraIndY (n : Byte) (s : State) : Host.Outcome State Fault Refusal := .next (rotateRightAdd (.indirectIndexed n) s)

/-- RRA, zero-page,X, opcode 0x77 (spec R243). -/
def execRraZpX (n : Byte) (s : State) : Host.Outcome State Fault Refusal := .next (rotateRightAdd (.zeroPageX n) s)

/-- RRA, absolute,Y, opcode 0x7B (spec R243). -/
def execRraAbsY (nn : Word) (s : State) : Host.Outcome State Fault Refusal := .next (rotateRightAdd (.absoluteY nn) s)

/-- RRA, absolute,X, opcode 0x7F (spec R243). -/
def execRraAbsX (nn : Word) (s : State) : Host.Outcome State Fault Refusal := .next (rotateRightAdd (.absoluteX nn) s)

/-- DCP: the operand minus 1, then A is compared with it (spec 47_illegal R246). -/
def decrementCompare (m : AddrMode) (s : State) : State :=
  let r := modifyOperand (.memory m) decOnly s
  r.2.setP (r.2.p.compare r.2.a r.1)

/-- DCP, (zero-page,X), opcode 0xC3 (spec R246). -/
def execDcpIndX (n : Byte) (s : State) : Host.Outcome State Fault Refusal := .next (decrementCompare (.indexedIndirect n) s)

/-- DCP, zero-page, opcode 0xC7 (spec R246). -/
def execDcpZp (n : Byte) (s : State) : Host.Outcome State Fault Refusal := .next (decrementCompare (.zeroPage n) s)

/-- DCP, absolute, opcode 0xCF (spec R246). -/
def execDcpAbs (nn : Word) (s : State) : Host.Outcome State Fault Refusal := .next (decrementCompare (.absolute nn) s)

/-- DCP, (zero-page),Y, opcode 0xD3 (spec R246). -/
def execDcpIndY (n : Byte) (s : State) : Host.Outcome State Fault Refusal := .next (decrementCompare (.indirectIndexed n) s)

/-- DCP, zero-page,X, opcode 0xD7 (spec R246). -/
def execDcpZpX (n : Byte) (s : State) : Host.Outcome State Fault Refusal := .next (decrementCompare (.zeroPageX n) s)

/-- DCP, absolute,Y, opcode 0xDB (spec R246). -/
def execDcpAbsY (nn : Word) (s : State) : Host.Outcome State Fault Refusal := .next (decrementCompare (.absoluteY nn) s)

/-- DCP, absolute,X, opcode 0xDF (spec R246). -/
def execDcpAbsX (nn : Word) (s : State) : Host.Outcome State Fault Refusal := .next (decrementCompare (.absoluteX nn) s)

/-- ISC: the operand plus 1, then `SubCore` of it (spec 47_illegal R247). -/
def incrementSubtract (m : AddrMode) (s : State) : State :=
  let r := modifyOperand (.memory m) incOnly s
  r.2.sub r.1

/-- ISC, (zero-page,X), opcode 0xE3 (spec R247). -/
def execIscIndX (n : Byte) (s : State) : Host.Outcome State Fault Refusal := .next (incrementSubtract (.indexedIndirect n) s)

/-- ISC, zero-page, opcode 0xE7 (spec R247). -/
def execIscZp (n : Byte) (s : State) : Host.Outcome State Fault Refusal := .next (incrementSubtract (.zeroPage n) s)

/-- ISC, absolute, opcode 0xEF (spec R247). -/
def execIscAbs (nn : Word) (s : State) : Host.Outcome State Fault Refusal := .next (incrementSubtract (.absolute nn) s)

/-- ISC, (zero-page),Y, opcode 0xF3 (spec R247). -/
def execIscIndY (n : Byte) (s : State) : Host.Outcome State Fault Refusal := .next (incrementSubtract (.indirectIndexed n) s)

/-- ISC, zero-page,X, opcode 0xF7 (spec R247). -/
def execIscZpX (n : Byte) (s : State) : Host.Outcome State Fault Refusal := .next (incrementSubtract (.zeroPageX n) s)

/-- ISC, absolute,Y, opcode 0xFB (spec R247). -/
def execIscAbsY (nn : Word) (s : State) : Host.Outcome State Fault Refusal := .next (incrementSubtract (.absoluteY nn) s)

/-- ISC, absolute,X, opcode 0xFF (spec R247). -/
def execIscAbsX (nn : Word) (s : State) : Host.Outcome State Fault Refusal := .next (incrementSubtract (.absoluteX nn) s)

/-- SAX: A & X is stored; no flag changes (spec 47_illegal R244). -/
def storeAX (m : AddrMode) (s : State) : State :=
  writeOperand m (s.a &&& s.x) s

/-- SAX, (zero-page,X), opcode 0x83 (spec R244). -/
def execSaxIndX (n : Byte) (s : State) : Host.Outcome State Fault Refusal := .next (storeAX (.indexedIndirect n) s)

/-- SAX, zero-page, opcode 0x87 (spec R244). -/
def execSaxZp (n : Byte) (s : State) : Host.Outcome State Fault Refusal := .next (storeAX (.zeroPage n) s)

/-- SAX, absolute, opcode 0x8F (spec R244). -/
def execSaxAbs (nn : Word) (s : State) : Host.Outcome State Fault Refusal := .next (storeAX (.absolute nn) s)

/-- SAX, zero-page,Y, opcode 0x97 (spec R244). -/
def execSaxZpY (n : Byte) (s : State) : Host.Outcome State Fault Refusal := .next (storeAX (.zeroPageY n) s)

/-- LAX: A and X <- the operand; N and Z of it (spec 47_illegal R245). -/
def loadAX (src : Source) (s : State) : State :=
  let r := readOperand src s
  ((r.2.setA r.1).setX r.1).setNZ r.1

/-- LAX, (zero-page,X), opcode 0xA3 (spec R245). -/
def execLaxIndX (n : Byte) (s : State) : Host.Outcome State Fault Refusal := .next (loadAX (.memory (.indexedIndirect n)) s)

/-- LAX, zero-page, opcode 0xA7 (spec R245). -/
def execLaxZp (n : Byte) (s : State) : Host.Outcome State Fault Refusal := .next (loadAX (.memory (.zeroPage n)) s)

/-- LAX, absolute, opcode 0xAF (spec R245). -/
def execLaxAbs (nn : Word) (s : State) : Host.Outcome State Fault Refusal := .next (loadAX (.memory (.absolute nn)) s)

/-- LAX, (zero-page),Y, opcode 0xB3 (spec R245). -/
def execLaxIndY (n : Byte) (s : State) : Host.Outcome State Fault Refusal := .next (loadAX (.memory (.indirectIndexed n)) s)

/-- LAX, zero-page,Y, opcode 0xB7 (spec R245). -/
def execLaxZpY (n : Byte) (s : State) : Host.Outcome State Fault Refusal := .next (loadAX (.memory (.zeroPageY n)) s)

/-- LAX, absolute,Y, opcode 0xBF (spec R245). -/
def execLaxAbsY (nn : Word) (s : State) : Host.Outcome State Fault Refusal := .next (loadAX (.memory (.absoluteY nn)) s)

/-- A and flags from a core of A, the immediate byte and P (spec 47_illegal R248 to R250). -/
def immediateCore (core : Byte → Byte → Status → Byte × Status) (m : Byte) (s : State) : State :=
  let r := core s.a m s.p
  (s.setA r.1).setP r.2

/-- ANC, immediate, opcode 0x0B (spec R248). -/
def execAnc0B (n : Byte) (s : State) : Host.Outcome State Fault Refusal := .next (immediateCore ancCore n s)

/-- ANC, immediate, opcode 0x2B (spec R248). -/
def execAnc2B (n : Byte) (s : State) : Host.Outcome State Fault Refusal := .next (immediateCore ancCore n s)

/-- ALR: A <- (A & m) >> 1; C <- bit 0 of A & m (spec 47_illegal R249). -/
def execAlr (n : Byte) (s : State) : Host.Outcome State Fault Refusal :=
  .next (immediateCore alrCore n s)

/-- ARR: A <- (A & m) rotated right, with its own C and V (spec 47_illegal R250). -/
def execArr (n : Byte) (s : State) : Host.Outcome State Fault Refusal :=
  .next (immediateCore arrCore n s)

/-- SBX: X <- (A & X) - m; C, N and Z as a compare (spec 47_illegal R251). -/
def execSbx (n : Byte) (s : State) : Host.Outcome State Fault Refusal :=
  let r := sbxCore s.a s.x n s.p
  .next ((s.setX r.1).setP r.2)

/-- USBC: the same as SBC immediate (spec 47_illegal R252). -/
def execUsbc (n : Byte) (s : State) : Host.Outcome State Fault Refusal :=
  .next (s.sub n)

/-- An undocumented NOP with a memory mode: the mode runs and may charge its page cross; the effective address is
not accessed (spec 47_illegal R253). -/
def nopAddressed (m : AddrMode) (s : State) : State := chargeCross (resolve m s)

/-- NOP, zero-page, opcode 0x04 (spec R253). -/
def execNop04 (n : Byte) (s : State) : Host.Outcome State Fault Refusal := .next (nopAddressed (.zeroPage n) s)

/-- NOP, absolute, opcode 0x0C (spec R253). -/
def execNop0C (nn : Word) (s : State) : Host.Outcome State Fault Refusal := .next (nopAddressed (.absolute nn) s)

/-- NOP, zero-page,X, opcode 0x14 (spec R253). -/
def execNop14 (n : Byte) (s : State) : Host.Outcome State Fault Refusal := .next (nopAddressed (.zeroPageX n) s)

/-- NOP, absolute,X, opcode 0x1C (spec R253). -/
def execNop1C (nn : Word) (s : State) : Host.Outcome State Fault Refusal := .next (nopAddressed (.absoluteX nn) s)

/-- NOP, zero-page,X, opcode 0x34 (spec R253). -/
def execNop34 (n : Byte) (s : State) : Host.Outcome State Fault Refusal := .next (nopAddressed (.zeroPageX n) s)

/-- NOP, absolute,X, opcode 0x3C (spec R253). -/
def execNop3C (nn : Word) (s : State) : Host.Outcome State Fault Refusal := .next (nopAddressed (.absoluteX nn) s)

/-- NOP, zero-page, opcode 0x44 (spec R253). -/
def execNop44 (n : Byte) (s : State) : Host.Outcome State Fault Refusal := .next (nopAddressed (.zeroPage n) s)

/-- NOP, zero-page,X, opcode 0x54 (spec R253). -/
def execNop54 (n : Byte) (s : State) : Host.Outcome State Fault Refusal := .next (nopAddressed (.zeroPageX n) s)

/-- NOP, absolute,X, opcode 0x5C (spec R253). -/
def execNop5C (nn : Word) (s : State) : Host.Outcome State Fault Refusal := .next (nopAddressed (.absoluteX nn) s)

/-- NOP, zero-page, opcode 0x64 (spec R253). -/
def execNop64 (n : Byte) (s : State) : Host.Outcome State Fault Refusal := .next (nopAddressed (.zeroPage n) s)

/-- NOP, zero-page,X, opcode 0x74 (spec R253). -/
def execNop74 (n : Byte) (s : State) : Host.Outcome State Fault Refusal := .next (nopAddressed (.zeroPageX n) s)

/-- NOP, absolute,X, opcode 0x7C (spec R253). -/
def execNop7C (nn : Word) (s : State) : Host.Outcome State Fault Refusal := .next (nopAddressed (.absoluteX nn) s)

/-- NOP, zero-page,X, opcode 0xD4 (spec R253). -/
def execNopD4 (n : Byte) (s : State) : Host.Outcome State Fault Refusal := .next (nopAddressed (.zeroPageX n) s)

/-- NOP, absolute,X, opcode 0xDC (spec R253). -/
def execNopDC (nn : Word) (s : State) : Host.Outcome State Fault Refusal := .next (nopAddressed (.absoluteX nn) s)

/-- NOP, zero-page,X, opcode 0xF4 (spec R253). -/
def execNopF4 (n : Byte) (s : State) : Host.Outcome State Fault Refusal := .next (nopAddressed (.zeroPageX n) s)

/-- NOP, absolute,X, opcode 0xFC (spec R253). -/
def execNopFC (nn : Word) (s : State) : Host.Outcome State Fault Refusal := .next (nopAddressed (.absoluteX nn) s)

/-- NOP, implied, opcode 0x1A (spec R253). -/
def execNop1A (s : State) : Host.Outcome State Fault Refusal := .next s

/-- NOP, implied, opcode 0x3A (spec R253). -/
def execNop3A (s : State) : Host.Outcome State Fault Refusal := .next s

/-- NOP, implied, opcode 0x5A (spec R253). -/
def execNop5A (s : State) : Host.Outcome State Fault Refusal := .next s

/-- NOP, implied, opcode 0x7A (spec R253). -/
def execNop7A (s : State) : Host.Outcome State Fault Refusal := .next s

/-- NOP, immediate, opcode 0x80 (spec R253). -/
def execNop80 (s : State) : Host.Outcome State Fault Refusal := .next (skipByte s)

/-- NOP, immediate, opcode 0x82 (spec R253). -/
def execNop82 (s : State) : Host.Outcome State Fault Refusal := .next (skipByte s)

/-- NOP, immediate, opcode 0x89 (spec R253). -/
def execNop89 (s : State) : Host.Outcome State Fault Refusal := .next (skipByte s)

/-- NOP, immediate, opcode 0xC2 (spec R253). -/
def execNopC2 (s : State) : Host.Outcome State Fault Refusal := .next (skipByte s)

/-- NOP, implied, opcode 0xDA (spec R253). -/
def execNopDA (s : State) : Host.Outcome State Fault Refusal := .next s

/-- NOP, immediate, opcode 0xE2 (spec R253). -/
def execNopE2 (s : State) : Host.Outcome State Fault Refusal := .next (skipByte s)

/-- NOP, implied, opcode 0xFA (spec R253). -/
def execNopFA (s : State) : Host.Outcome State Fault Refusal := .next s

/-- JAM: `jammed` <- 1 (spec 47_illegal R254). -/
def jam (s : State) : State := s.halt

/-- JAM, implied, opcode 0x02 (spec R254). -/
def execJam02 (s : State) : Host.Outcome State Fault Refusal := .next (jam s)

/-- JAM, implied, opcode 0x12 (spec R254). -/
def execJam12 (s : State) : Host.Outcome State Fault Refusal := .next (jam s)

/-- JAM, implied, opcode 0x22 (spec R254). -/
def execJam22 (s : State) : Host.Outcome State Fault Refusal := .next (jam s)

/-- JAM, implied, opcode 0x32 (spec R254). -/
def execJam32 (s : State) : Host.Outcome State Fault Refusal := .next (jam s)

/-- JAM, implied, opcode 0x42 (spec R254). -/
def execJam42 (s : State) : Host.Outcome State Fault Refusal := .next (jam s)

/-- JAM, implied, opcode 0x52 (spec R254). -/
def execJam52 (s : State) : Host.Outcome State Fault Refusal := .next (jam s)

/-- JAM, implied, opcode 0x62 (spec R254). -/
def execJam62 (s : State) : Host.Outcome State Fault Refusal := .next (jam s)

/-- JAM, implied, opcode 0x72 (spec R254). -/
def execJam72 (s : State) : Host.Outcome State Fault Refusal := .next (jam s)

/-- JAM, implied, opcode 0x92 (spec R254). -/
def execJam92 (s : State) : Host.Outcome State Fault Refusal := .next (jam s)

/-- JAM, implied, opcode 0xB2 (spec R254). -/
def execJamB2 (s : State) : Host.Outcome State Fault Refusal := .next (jam s)

/-- JAM, implied, opcode 0xD2 (spec R254). -/
def execJamD2 (s : State) : Host.Outcome State Fault Refusal := .next (jam s)

/-- JAM, implied, opcode 0xF2 (spec R254). -/
def execJamF2 (s : State) : Host.Outcome State Fault Refusal := .next (jam s)

/-- An unstable slot under UNSTABLE_POLICY (spec 47_illegal R255): with `nop`, the state after its addressing mode;
with `refuse`, no meaning. -/
def unstable (cfg : Config) (afterMode : State) : Host.Outcome State Fault Refusal :=
  match cfg.unstablePolicy with
  | .nop => .next afterMode
  | .refuse => .refused .unstableSlot

/-- ANE, immediate, opcode 0x8B (spec R255). -/
def execAne (s : State) : Host.Outcome State Fault Refusal := unstable s.cfg (skipByte s)

/-- LXA, immediate, opcode 0xAB (spec R255). -/
def execLxa (s : State) : Host.Outcome State Fault Refusal := unstable s.cfg (skipByte s)

/-- SHA, (zero-page),Y, opcode 0x93 (spec R255). -/
def execShaIndY (n : Byte) (s : State) : Host.Outcome State Fault Refusal := unstable s.cfg (resolve (.indirectIndexed n) s).state

/-- SHA, absolute,Y, opcode 0x9F (spec R255). -/
def execShaAbsY (nn : Word) (s : State) : Host.Outcome State Fault Refusal := unstable s.cfg (resolve (.absoluteY nn) s).state

/-- TAS, absolute,Y, opcode 0x9B (spec R255). -/
def execTas (nn : Word) (s : State) : Host.Outcome State Fault Refusal := unstable s.cfg (resolve (.absoluteY nn) s).state

/-- SHY, absolute,X, opcode 0x9C (spec R255). -/
def execShy (nn : Word) (s : State) : Host.Outcome State Fault Refusal := unstable s.cfg (resolve (.absoluteX nn) s).state

/-- SHX, absolute,Y, opcode 0x9E (spec R255). -/
def execShx (nn : Word) (s : State) : Host.Outcome State Fault Refusal := unstable s.cfg (resolve (.absoluteY nn) s).state

/-- LAS, absolute,Y, opcode 0xBB (spec R255). -/
def execLas (nn : Word) (s : State) : Host.Outcome State Fault Refusal := unstable s.cfg (resolve (.absoluteY nn) s).state

end Sys2Proof.Machine
end

