-- ==== Sys2Proof/Machine/Dispatch.lean ====
section
/-! DEFINITION. One arm per constructor of Instr: the direct call of the instruction's meaning. -/

namespace Sys2Proof.Machine

/-- The operation of an instruction whose opcode and operand bytes have been fetched (spec 40_addressing_modes R110). -/
def exec (i : Instr) (s : State) : Host.Outcome State Fault Refusal :=
  match i with
  -- Loads, stores and register transfers (41_load_store_transfer)
  | .ldaIndX n => Sys2Proof.Machine.execLdaIndX n s
  | .ldaZp n => Sys2Proof.Machine.execLdaZp n s
  | .ldaImm n => Sys2Proof.Machine.execLdaImm n s
  | .ldaAbs nn => Sys2Proof.Machine.execLdaAbs nn s
  | .ldaIndY n => Sys2Proof.Machine.execLdaIndY n s
  | .ldaZpX n => Sys2Proof.Machine.execLdaZpX n s
  | .ldaAbsY nn => Sys2Proof.Machine.execLdaAbsY nn s
  | .ldaAbsX nn => Sys2Proof.Machine.execLdaAbsX nn s
  | .ldxImm n => Sys2Proof.Machine.execLdxImm n s
  | .ldxZp n => Sys2Proof.Machine.execLdxZp n s
  | .ldxAbs nn => Sys2Proof.Machine.execLdxAbs nn s
  | .ldxZpY n => Sys2Proof.Machine.execLdxZpY n s
  | .ldxAbsY nn => Sys2Proof.Machine.execLdxAbsY nn s
  | .ldyImm n => Sys2Proof.Machine.execLdyImm n s
  | .ldyZp n => Sys2Proof.Machine.execLdyZp n s
  | .ldyAbs nn => Sys2Proof.Machine.execLdyAbs nn s
  | .ldyZpX n => Sys2Proof.Machine.execLdyZpX n s
  | .ldyAbsX nn => Sys2Proof.Machine.execLdyAbsX nn s
  | .staIndX n => Sys2Proof.Machine.execStaIndX n s
  | .staZp n => Sys2Proof.Machine.execStaZp n s
  | .staAbs nn => Sys2Proof.Machine.execStaAbs nn s
  | .staIndY n => Sys2Proof.Machine.execStaIndY n s
  | .staZpX n => Sys2Proof.Machine.execStaZpX n s
  | .staAbsY nn => Sys2Proof.Machine.execStaAbsY nn s
  | .staAbsX nn => Sys2Proof.Machine.execStaAbsX nn s
  | .stxZp n => Sys2Proof.Machine.execStxZp n s
  | .stxAbs nn => Sys2Proof.Machine.execStxAbs nn s
  | .stxZpY n => Sys2Proof.Machine.execStxZpY n s
  | .styZp n => Sys2Proof.Machine.execStyZp n s
  | .styAbs nn => Sys2Proof.Machine.execStyAbs nn s
  | .styZpX n => Sys2Proof.Machine.execStyZpX n s
  | .tax => Sys2Proof.Machine.execTax s
  | .tay => Sys2Proof.Machine.execTay s
  | .txa => Sys2Proof.Machine.execTxa s
  | .tya => Sys2Proof.Machine.execTya s
  | .tsx => Sys2Proof.Machine.execTsx s
  | .txs => Sys2Proof.Machine.execTxs s
  -- Stack (42_stack)
  | .pha => Sys2Proof.Machine.execPha s
  | .php => Sys2Proof.Machine.execPhp s
  | .pla => Sys2Proof.Machine.execPla s
  | .plp => Sys2Proof.Machine.execPlp s
  -- ALU (43_alu)
  | .adcIndX n => Sys2Proof.Machine.execAdcIndX n s
  | .adcZp n => Sys2Proof.Machine.execAdcZp n s
  | .adcImm n => Sys2Proof.Machine.execAdcImm n s
  | .adcAbs nn => Sys2Proof.Machine.execAdcAbs nn s
  | .adcIndY n => Sys2Proof.Machine.execAdcIndY n s
  | .adcZpX n => Sys2Proof.Machine.execAdcZpX n s
  | .adcAbsY nn => Sys2Proof.Machine.execAdcAbsY nn s
  | .adcAbsX nn => Sys2Proof.Machine.execAdcAbsX nn s
  | .sbcIndX n => Sys2Proof.Machine.execSbcIndX n s
  | .sbcZp n => Sys2Proof.Machine.execSbcZp n s
  | .sbcImm n => Sys2Proof.Machine.execSbcImm n s
  | .sbcAbs nn => Sys2Proof.Machine.execSbcAbs nn s
  | .sbcIndY n => Sys2Proof.Machine.execSbcIndY n s
  | .sbcZpX n => Sys2Proof.Machine.execSbcZpX n s
  | .sbcAbsY nn => Sys2Proof.Machine.execSbcAbsY nn s
  | .sbcAbsX nn => Sys2Proof.Machine.execSbcAbsX nn s
  | .andIndX n => Sys2Proof.Machine.execAndIndX n s
  | .andZp n => Sys2Proof.Machine.execAndZp n s
  | .andImm n => Sys2Proof.Machine.execAndImm n s
  | .andAbs nn => Sys2Proof.Machine.execAndAbs nn s
  | .andIndY n => Sys2Proof.Machine.execAndIndY n s
  | .andZpX n => Sys2Proof.Machine.execAndZpX n s
  | .andAbsY nn => Sys2Proof.Machine.execAndAbsY nn s
  | .andAbsX nn => Sys2Proof.Machine.execAndAbsX nn s
  | .oraIndX n => Sys2Proof.Machine.execOraIndX n s
  | .oraZp n => Sys2Proof.Machine.execOraZp n s
  | .oraImm n => Sys2Proof.Machine.execOraImm n s
  | .oraAbs nn => Sys2Proof.Machine.execOraAbs nn s
  | .oraIndY n => Sys2Proof.Machine.execOraIndY n s
  | .oraZpX n => Sys2Proof.Machine.execOraZpX n s
  | .oraAbsY nn => Sys2Proof.Machine.execOraAbsY nn s
  | .oraAbsX nn => Sys2Proof.Machine.execOraAbsX nn s
  | .eorIndX n => Sys2Proof.Machine.execEorIndX n s
  | .eorZp n => Sys2Proof.Machine.execEorZp n s
  | .eorImm n => Sys2Proof.Machine.execEorImm n s
  | .eorAbs nn => Sys2Proof.Machine.execEorAbs nn s
  | .eorIndY n => Sys2Proof.Machine.execEorIndY n s
  | .eorZpX n => Sys2Proof.Machine.execEorZpX n s
  | .eorAbsY nn => Sys2Proof.Machine.execEorAbsY nn s
  | .eorAbsX nn => Sys2Proof.Machine.execEorAbsX nn s
  | .cmpIndX n => Sys2Proof.Machine.execCmpIndX n s
  | .cmpZp n => Sys2Proof.Machine.execCmpZp n s
  | .cmpImm n => Sys2Proof.Machine.execCmpImm n s
  | .cmpAbs nn => Sys2Proof.Machine.execCmpAbs nn s
  | .cmpIndY n => Sys2Proof.Machine.execCmpIndY n s
  | .cmpZpX n => Sys2Proof.Machine.execCmpZpX n s
  | .cmpAbsY nn => Sys2Proof.Machine.execCmpAbsY nn s
  | .cmpAbsX nn => Sys2Proof.Machine.execCmpAbsX nn s
  | .cpxImm n => Sys2Proof.Machine.execCpxImm n s
  | .cpxZp n => Sys2Proof.Machine.execCpxZp n s
  | .cpxAbs nn => Sys2Proof.Machine.execCpxAbs nn s
  | .cpyImm n => Sys2Proof.Machine.execCpyImm n s
  | .cpyZp n => Sys2Proof.Machine.execCpyZp n s
  | .cpyAbs nn => Sys2Proof.Machine.execCpyAbs nn s
  | .bitZp n => Sys2Proof.Machine.execBitZp n s
  | .bitAbs nn => Sys2Proof.Machine.execBitAbs nn s
  | .incZp n => Sys2Proof.Machine.execIncZp n s
  | .incAbs nn => Sys2Proof.Machine.execIncAbs nn s
  | .incZpX n => Sys2Proof.Machine.execIncZpX n s
  | .incAbsX nn => Sys2Proof.Machine.execIncAbsX nn s
  | .decZp n => Sys2Proof.Machine.execDecZp n s
  | .decAbs nn => Sys2Proof.Machine.execDecAbs nn s
  | .decZpX n => Sys2Proof.Machine.execDecZpX n s
  | .decAbsX nn => Sys2Proof.Machine.execDecAbsX nn s
  | .inx => Sys2Proof.Machine.execInx s
  | .iny => Sys2Proof.Machine.execIny s
  | .dex => Sys2Proof.Machine.execDex s
  | .dey => Sys2Proof.Machine.execDey s
  -- Shifts and rotates (44_shift_rotate)
  | .aslZp n => Sys2Proof.Machine.execAslZp n s
  | .aslAcc => Sys2Proof.Machine.execAslAcc s
  | .aslAbs nn => Sys2Proof.Machine.execAslAbs nn s
  | .aslZpX n => Sys2Proof.Machine.execAslZpX n s
  | .aslAbsX nn => Sys2Proof.Machine.execAslAbsX nn s
  | .lsrZp n => Sys2Proof.Machine.execLsrZp n s
  | .lsrAcc => Sys2Proof.Machine.execLsrAcc s
  | .lsrAbs nn => Sys2Proof.Machine.execLsrAbs nn s
  | .lsrZpX n => Sys2Proof.Machine.execLsrZpX n s
  | .lsrAbsX nn => Sys2Proof.Machine.execLsrAbsX nn s
  | .rolZp n => Sys2Proof.Machine.execRolZp n s
  | .rolAcc => Sys2Proof.Machine.execRolAcc s
  | .rolAbs nn => Sys2Proof.Machine.execRolAbs nn s
  | .rolZpX n => Sys2Proof.Machine.execRolZpX n s
  | .rolAbsX nn => Sys2Proof.Machine.execRolAbsX nn s
  | .rorZp n => Sys2Proof.Machine.execRorZp n s
  | .rorAcc => Sys2Proof.Machine.execRorAcc s
  | .rorAbs nn => Sys2Proof.Machine.execRorAbs nn s
  | .rorZpX n => Sys2Proof.Machine.execRorZpX n s
  | .rorAbsX nn => Sys2Proof.Machine.execRorAbsX nn s
  -- Control transfer (45_control)
  | .jmpAbs nn => Sys2Proof.Machine.execJmpAbs nn s
  | .jmpInd ptr => Sys2Proof.Machine.execJmpInd ptr s
  | .jsr nn => Sys2Proof.Machine.execJsr nn s
  | .rts => Sys2Proof.Machine.execRts s
  | .bpl d => Sys2Proof.Machine.execBpl d s
  | .bmi d => Sys2Proof.Machine.execBmi d s
  | .bvc d => Sys2Proof.Machine.execBvc d s
  | .bvs d => Sys2Proof.Machine.execBvs d s
  | .bcc d => Sys2Proof.Machine.execBcc d s
  | .bcs d => Sys2Proof.Machine.execBcs d s
  | .bne d => Sys2Proof.Machine.execBne d s
  | .beq d => Sys2Proof.Machine.execBeq d s
  | .brk => Sys2Proof.Machine.execBrk s
  | .rti => Sys2Proof.Machine.execRti s
  -- Flag instructions and NOP (46_flags_nop)
  | .clc => Sys2Proof.Machine.execClc s
  | .sec => Sys2Proof.Machine.execSec s
  | .cli => Sys2Proof.Machine.execCli s
  | .sei => Sys2Proof.Machine.execSei s
  | .cld => Sys2Proof.Machine.execCld s
  | .sed => Sys2Proof.Machine.execSed s
  | .clv => Sys2Proof.Machine.execClv s
  | .nop => Sys2Proof.Machine.execNop s
  -- Undocumented opcodes, JAM and unstable slots (47_illegal)
  | .sloIndX n => Sys2Proof.Machine.execSloIndX n s
  | .sloZp n => Sys2Proof.Machine.execSloZp n s
  | .sloAbs nn => Sys2Proof.Machine.execSloAbs nn s
  | .sloIndY n => Sys2Proof.Machine.execSloIndY n s
  | .sloZpX n => Sys2Proof.Machine.execSloZpX n s
  | .sloAbsY nn => Sys2Proof.Machine.execSloAbsY nn s
  | .sloAbsX nn => Sys2Proof.Machine.execSloAbsX nn s
  | .rlaIndX n => Sys2Proof.Machine.execRlaIndX n s
  | .rlaZp n => Sys2Proof.Machine.execRlaZp n s
  | .rlaAbs nn => Sys2Proof.Machine.execRlaAbs nn s
  | .rlaIndY n => Sys2Proof.Machine.execRlaIndY n s
  | .rlaZpX n => Sys2Proof.Machine.execRlaZpX n s
  | .rlaAbsY nn => Sys2Proof.Machine.execRlaAbsY nn s
  | .rlaAbsX nn => Sys2Proof.Machine.execRlaAbsX nn s
  | .sreIndX n => Sys2Proof.Machine.execSreIndX n s
  | .sreZp n => Sys2Proof.Machine.execSreZp n s
  | .sreAbs nn => Sys2Proof.Machine.execSreAbs nn s
  | .sreIndY n => Sys2Proof.Machine.execSreIndY n s
  | .sreZpX n => Sys2Proof.Machine.execSreZpX n s
  | .sreAbsY nn => Sys2Proof.Machine.execSreAbsY nn s
  | .sreAbsX nn => Sys2Proof.Machine.execSreAbsX nn s
  | .rraIndX n => Sys2Proof.Machine.execRraIndX n s
  | .rraZp n => Sys2Proof.Machine.execRraZp n s
  | .rraAbs nn => Sys2Proof.Machine.execRraAbs nn s
  | .rraIndY n => Sys2Proof.Machine.execRraIndY n s
  | .rraZpX n => Sys2Proof.Machine.execRraZpX n s
  | .rraAbsY nn => Sys2Proof.Machine.execRraAbsY nn s
  | .rraAbsX nn => Sys2Proof.Machine.execRraAbsX nn s
  | .dcpIndX n => Sys2Proof.Machine.execDcpIndX n s
  | .dcpZp n => Sys2Proof.Machine.execDcpZp n s
  | .dcpAbs nn => Sys2Proof.Machine.execDcpAbs nn s
  | .dcpIndY n => Sys2Proof.Machine.execDcpIndY n s
  | .dcpZpX n => Sys2Proof.Machine.execDcpZpX n s
  | .dcpAbsY nn => Sys2Proof.Machine.execDcpAbsY nn s
  | .dcpAbsX nn => Sys2Proof.Machine.execDcpAbsX nn s
  | .iscIndX n => Sys2Proof.Machine.execIscIndX n s
  | .iscZp n => Sys2Proof.Machine.execIscZp n s
  | .iscAbs nn => Sys2Proof.Machine.execIscAbs nn s
  | .iscIndY n => Sys2Proof.Machine.execIscIndY n s
  | .iscZpX n => Sys2Proof.Machine.execIscZpX n s
  | .iscAbsY nn => Sys2Proof.Machine.execIscAbsY nn s
  | .iscAbsX nn => Sys2Proof.Machine.execIscAbsX nn s
  | .saxIndX n => Sys2Proof.Machine.execSaxIndX n s
  | .saxZp n => Sys2Proof.Machine.execSaxZp n s
  | .saxAbs nn => Sys2Proof.Machine.execSaxAbs nn s
  | .saxZpY n => Sys2Proof.Machine.execSaxZpY n s
  | .laxIndX n => Sys2Proof.Machine.execLaxIndX n s
  | .laxZp n => Sys2Proof.Machine.execLaxZp n s
  | .laxAbs nn => Sys2Proof.Machine.execLaxAbs nn s
  | .laxIndY n => Sys2Proof.Machine.execLaxIndY n s
  | .laxZpY n => Sys2Proof.Machine.execLaxZpY n s
  | .laxAbsY nn => Sys2Proof.Machine.execLaxAbsY nn s
  | .anc0B n => Sys2Proof.Machine.execAnc0B n s
  | .anc2B n => Sys2Proof.Machine.execAnc2B n s
  | .alr n => Sys2Proof.Machine.execAlr n s
  | .arr n => Sys2Proof.Machine.execArr n s
  | .sbx n => Sys2Proof.Machine.execSbx n s
  | .usbc n => Sys2Proof.Machine.execUsbc n s
  | .shaIndY n => Sys2Proof.Machine.execShaIndY n s
  | .shaAbsY nn => Sys2Proof.Machine.execShaAbsY nn s
  | .tas nn => Sys2Proof.Machine.execTas nn s
  | .shy nn => Sys2Proof.Machine.execShy nn s
  | .shx nn => Sys2Proof.Machine.execShx nn s
  | .las nn => Sys2Proof.Machine.execLas nn s
  | .ane => Sys2Proof.Machine.execAne s
  | .lxa => Sys2Proof.Machine.execLxa s
  | .nop04 n => Sys2Proof.Machine.execNop04 n s
  | .nop0C nn => Sys2Proof.Machine.execNop0C nn s
  | .nop14 n => Sys2Proof.Machine.execNop14 n s
  | .nop1C nn => Sys2Proof.Machine.execNop1C nn s
  | .nop34 n => Sys2Proof.Machine.execNop34 n s
  | .nop3C nn => Sys2Proof.Machine.execNop3C nn s
  | .nop44 n => Sys2Proof.Machine.execNop44 n s
  | .nop54 n => Sys2Proof.Machine.execNop54 n s
  | .nop5C nn => Sys2Proof.Machine.execNop5C nn s
  | .nop64 n => Sys2Proof.Machine.execNop64 n s
  | .nop74 n => Sys2Proof.Machine.execNop74 n s
  | .nop7C nn => Sys2Proof.Machine.execNop7C nn s
  | .nopD4 n => Sys2Proof.Machine.execNopD4 n s
  | .nopDC nn => Sys2Proof.Machine.execNopDC nn s
  | .nopF4 n => Sys2Proof.Machine.execNopF4 n s
  | .nopFC nn => Sys2Proof.Machine.execNopFC nn s
  | .nop1A => Sys2Proof.Machine.execNop1A s
  | .nop3A => Sys2Proof.Machine.execNop3A s
  | .nop5A => Sys2Proof.Machine.execNop5A s
  | .nop7A => Sys2Proof.Machine.execNop7A s
  | .nop80 => Sys2Proof.Machine.execNop80 s
  | .nop82 => Sys2Proof.Machine.execNop82 s
  | .nop89 => Sys2Proof.Machine.execNop89 s
  | .nopC2 => Sys2Proof.Machine.execNopC2 s
  | .nopDA => Sys2Proof.Machine.execNopDA s
  | .nopE2 => Sys2Proof.Machine.execNopE2 s
  | .nopFA => Sys2Proof.Machine.execNopFA s
  | .jam02 => Sys2Proof.Machine.execJam02 s
  | .jam12 => Sys2Proof.Machine.execJam12 s
  | .jam22 => Sys2Proof.Machine.execJam22 s
  | .jam32 => Sys2Proof.Machine.execJam32 s
  | .jam42 => Sys2Proof.Machine.execJam42 s
  | .jam52 => Sys2Proof.Machine.execJam52 s
  | .jam62 => Sys2Proof.Machine.execJam62 s
  | .jam72 => Sys2Proof.Machine.execJam72 s
  | .jam92 => Sys2Proof.Machine.execJam92 s
  | .jamB2 => Sys2Proof.Machine.execJamB2 s
  | .jamD2 => Sys2Proof.Machine.execJamD2 s
  | .jamF2 => Sys2Proof.Machine.execJamF2 s

end Sys2Proof.Machine
end

