-- ==== Sys2Proof/Machine/Engine.lean ====
section
/-! DEFINITION. The CPU's `step()` and the Computer's part in a step (spec 40_addressing_modes R110, 60_exceptions R272
and R279). -/

namespace Sys2Proof.Machine

/-- Fetches one instruction (spec 40_addressing_modes R110): the opcode byte, which is kept in `currentOpcode`, then
the operand bytes its slot fetches, low byte first. -/
def fetchInstr (s : State) : Instr × State :=
  let op := fetchByte s
  let s1 := op.2.setCurrentOpcode op.1
  match slotOf op.1 with
  | .bare i => (i, s1)
  | .skip i => (i, s1)
  | .byte f =>
    let b := fetchByte s1
    (f b.1, b.2)
  | .word f =>
    let w := fetchWord s1
    (f w.1, w.2)

/-- Whether the start of a step takes an IRQ (spec 60_exceptions R272, R274). -/
def irqTaken (s : State) : Bool := s.cfg.hasIrq && s.irq && !s.p.i

/-- The CPU's `step()` and the cycle count it returns (spec 40_addressing_modes R110, R129, 60_exceptions R272): a
jammed step changes nothing and returns 0; an IRQ entry returns IRQ_CYCLES; else one instruction runs. -/
def cpuStep (s : State) : Host.Outcome (State × Nat) Fault Refusal :=
  if s.jammed then .next (s, 0)
  else if irqTaken s then .next (interruptEntry false s, s.cfg.irqCycles)
  else
    let f := fetchInstr (s.setPenalty 0)
    match exec f.1 f.2 with
    | .next t => .next (t, nominalCycles t.cfg t.currentOpcode + t.penalty)
    | .fault r => .fault r
    | .refused r => .refused r

/-- Every peripheral, in the Bus's order, receives `c * TICKS_PER_CYCLE` ticks (spec 60_exceptions R279); a
peripheral with no listed rate receives none. -/
def tickAll (c : Nat) : List Nat → List Peripheral → List Peripheral
  | rate :: rates, p :: ps => { p with ticks := p.ticks + c * rate } :: tickAll c rates ps
  | [], ps => ps
  | _, [] => []

/-- The Computer's part of a step that cost `c` cycles: `total` grows by `c`, then the peripherals tick
(spec 60_exceptions R279, R280). -/
def computerTick (c : Nat) (s : State) : State :=
  { s with total := s.total + c, peripherals := tickAll c s.cfg.ticksPerCycle s.peripherals }

/-- `Computer.step()` (spec 60_exceptions R279). -/
def computerStep (s : State) : Host.Outcome State Fault Refusal :=
  match cpuStep s with
  | .next r => .next (computerTick r.2 r.1)
  | .fault r => .fault r
  | .refused r => .refused r

/-! ### Placing an instruction where the next step fetches it -/

/-- Writes a Memory cell directly, as `loadROM` does: past the Bus's read-only property and with no observer told
(spec 70_reset_and_hazards R296). -/
def pokeCell (s : State) (addr : Word) (v : Byte) : State :=
  match route s addr with
  | .cell k m off => { s with memories := s.memories.set k (m.put off v) }
  | .device _ _ _ => s
  | .unmapped => s

/-- Writes consecutive bytes directly. -/
def pokeBytes (s : State) (addr : Word) : List Byte → State
  | [] => s
  | v :: vs => pokeBytes (pokeCell s addr v) (addr + 1) vs

/-- Whether an instruction of three bytes can stand at an address: three different Memory cells. -/
def standsInMemory (s : State) (addr : Word) : Bool :=
  match cellOf s addr, cellOf s (addr + 1), cellOf s (addr + 2) with
  | some c0, some c1, some c2 => c0 != c1 && c0 != c2 && c1 != c2
  | _, _, _ => false

/-- Where a program is placed: at PC where PC lies in Memory, else at 0xF000, the console's first cartridge address
(log entry 7). -/
def programSite (s : State) : Word := if standsInMemory s s.pc then s.pc else 0xF000

/-- The state whose very next step fetches and runs the instruction of the given bytes (log entry 7): the bytes stand
at PC, the CPU is not jammed and no IRQ is requested. -/
def placeInstr (s : State) (bytes : List Byte) : State :=
  let site := programSite s
  { pokeBytes s site bytes with pc := site, jammed := false, irq := false }

end Sys2Proof.Machine
end

