-- ==== Sys2Proof/Machine/Step.lean ====
section
/-! DEFINITION. One step of the machine, and an instruction placed where the next step fetches it. -/

namespace Sys2Proof.Machine

/-- One step: `Computer.step()` (spec 60_exceptions R279). -/
def step (s : State) : Host.Outcome State Fault Refusal := computerStep s

/-- The state with an instruction stored where the next step fetches it; it stands for loading a ROM image and
resetting (spec 70_reset_and_hazards R295; log entry 7). -/
def State.withFetchWord (s : State) (nbits w : Nat) : State := placeInstr s (tableBytes nbits w)

end Sys2Proof.Machine
end

