-- ==== Sys2Proof/Machine/Boundary.lean ====
section
/-! DEFINITION. The operations the host calls between steps (spec 60_exceptions R282 to R285, 70_reset_and_hazards R290
to R296): none is an instruction, and each is one atomic action. -/

namespace Sys2Proof.Machine

/-- `reset()` (spec 70_reset_and_hazards R290): S, P.I, P.D, PC from the vector at 0xFFFC, `jammed`; nothing else. -/
def applyReset (s : State) : State :=
  let s1 := (s.setSp 0xFF).setP { s.p with i := true, d := false }
  let vector := loadWord s1 0xFFFC
  { vector.2.setPc vector.1 with jammed := false }

/-- `setFlags(v)`: every flag from its position in `v` (spec 60_exceptions R282). -/
def setFlags (s : State) (v : Byte) : State := s.setP (Status.ofByte v)

/-- `currentOpcode()` (spec 60_exceptions R283). -/
def readCurrentOpcode (s : State) : Byte := s.currentOpcode

/-- `enumMemory()`: every backing store with its name, in ENUM_ORDER (spec 20_memory R59).  DESIGN CHOICE (log entry 24):
a number of `enumOrder` that names no Memory is passed over, and a Memory is given as often as `enumOrder` names it; the spec
has no ENUM_ORDER that is not a listing of the backing stores. -/
def enumMemory (s : State) : List (Memory × MemoryName) :=
  s.cfg.enumOrder.filterMap fun k => (s.memories[k]?).map fun m => (m, m.name)

/-- Registers a write-observer with Memory number `k`, after those already registered (spec 20_memory R65). -/
def registerObserver (s : State) (k observer : Nat) : State :=
  { s with memories := s.memories.modify k fun m => { m with observers := m.observers ++ [observer] } }

/-- Removes every registration of a write-observer from Memory number `k` (spec 60_exceptions R284). -/
def removeObserver (s : State) (k observer : Nat) : State :=
  { s with memories := s.memories.modify k fun m => { m with observers := m.observers.filter (· != observer) } }

/-- The environment sets the level of the IRQ request input (spec 60_exceptions R272). -/
def setIrq (s : State) (level : Bool) : State := { s with irq := level }

/-- Copies bytes into a Memory from offset `i` on; a byte that finds no cell left is ignored. -/
def copyBytes (m : Memory) (i : Nat) : List Byte → Memory
  | [] => m
  | v :: vs => if i < m.cap then copyBytes (m.put i v) (i + 1) vs else m

/-- `loadROM(bytes)` into Memory number `k` (spec 70_reset_and_hazards R296): at most its capacity, from offset 0, past
the Bus, with no observer told and no CPU register changed. -/
def loadRom (s : State) (k : Nat) (bytes : List Byte) : State :=
  { s with memories := s.memories.modify k fun m => copyBytes m 0 bytes }

/-- A ROM image is loaded and the CPU reset (spec 70_reset_and_hazards R295). -/
def bootRom (s : State) (k : Nat) (bytes : List Byte) : State := applyReset (loadRom s k bytes)

/-- RESET_UNSPEC (spec 00_scope R7, 70_reset_and_hazards R292): the values the registers hold at construction. -/
structure ResetUnspec where
  a : Byte
  x : Byte
  y : Byte
  sp : Byte
  pc : Word
  p : Status
  currentOpcode : Byte
deriving DecidableEq, Repr

/-- The Computer at construction, before any `reset()` (spec 70_reset_and_hazards R292): `jammed`, `penalty` and `total`
are 0, the registers hold RESET_UNSPEC, and the Memories hold RAM_INIT. -/
def constructed (u : ResetUnspec) (cfg : Config) (memories : List Memory) (n : Nat) : State where
  a := u.a
  x := u.x
  y := u.y
  sp := u.sp
  pc := u.pc
  p := u.p
  jammed := false
  currentOpcode := u.currentOpcode
  penalty := 0
  memories := memories
  peripherals := List.replicate n ⟨0, []⟩
  notifications := []
  total := 0
  irq := false
  draws := 0
  cfg := cfg

end Sys2Proof.Machine
end

