-- ==== Sys2Proof/Safety.lean ====
section
/-! DEFINITION. What a well-formed machine is: the invariant that every step keeps. -/

namespace Sys2Proof.Machine

/-- Every Memory is in canonical form (`Memory.wf`). -/
def State.memoriesWf (s : State) : Bool := s.memories.all Memory.wf

/-- Whether a target exists: its Memory or peripheral has that number. -/
def targetExists (nMemories nPeripherals : Nat) : Target → Bool
  | .memory k _ _ => decide (k < nMemories)
  | .peripheral k _ _ _ => decide (k < nPeripherals)
  | .fallback => true

/-- The Bus map partitions the masked address space among targets that exist (spec 20_memory R53), and every Memory is
in canonical form. -/
def State.wf (s : State) : Bool :=
  s.memoriesWf && s.cfg.busWf &&
    s.cfg.busMap.all fun r => targetExists s.memories.length s.peripherals.length r.target

end Sys2Proof.Machine
end

