-- ==== Sys2Proof/Certificates/Slice0/Obligations.lean ====
section
/-! DEFINITION. The statements for the provers.  First the vocabulary the statements share, then the statements. -/

namespace Sys2Proof.Claims

open Sys2Proof.Machine

/-! ### Encodings and completion -/

/-- The bytes decode to the instruction, whatever follows them, and its opcode's base cost is `cycles`. -/
def Encoded (i : Instr) (bytes : List Byte) (cycles : Nat) : Prop :=
  (∀ rest, decode (bytes ++ rest) = .ok (i, rest)) ∧ i.length = bytes.length ∧ baseCycles (bytes.headD 0) = cycles

/-- The instruction stands for these bytes at this base cost, and running it at `s` answers the next state `t`. -/
def Gives (i : Instr) (bytes : List Byte) (cycles : Nat) (s t : State) : Prop :=
  Encoded i bytes cycles ∧ exec i s = .next t

/-- Running `i` at `s` answers a next state, and `P` holds of it. -/
def Completes (i : Instr) (s : State) (P : State → Prop) : Prop := ∃ t, exec i s = .next t ∧ P t

/-- One row of an opcode table of the spec: the instruction, its bytes, its base cycles, and its mode. -/
structure Row (Mode : Type) where
  instr : Instr
  bytes : List Byte
  cycles : Nat
  mode : Mode

/-- Each row is encoded as it says, and running it at `s` answers a next state of which `P` holds. -/
def EachCompletes {Mode : Type} (rows : List (Row Mode)) (s : State) (P : Mode → State → Prop) : Prop :=
  ∀ r ∈ rows, Encoded r.instr r.bytes r.cycles ∧ Completes r.instr s (P r.mode)

/-! ### Frames -/

/-- The registers A, X, Y, S and PC of a state. -/
structure RegsAre (t : State) (a x y sp : Byte) (pc : Word) : Prop where
  a : t.a = a
  x : t.x = x
  y : t.y = y
  sp : t.sp = sp
  pc : t.pc = pc

/-- What no instruction but JAM touches outside the registers, the penalty and the Bus: `jammed`, `currentOpcode`, the
Computer's count, the IRQ level and the parameters. -/
structure HiddenKept (s t : State) : Prop where
  jammed : t.jammed = s.jammed
  currentOpcode : t.currentOpcode = s.currentOpcode
  total : t.total = s.total
  irq : t.irq = s.irq
  cfg : t.cfg = s.cfg

/-- Nothing was stored: every address reads as before, and no observer was told anything. -/
structure NoStore (s t : State) : Prop where
  bytes : ∀ addr, peek t addr = peek s addr
  memories : t.memories = s.memories
  notifications : t.notifications = s.notifications

/-- The Bus of `t` is as the reads that led to `u` left it: nothing stored, and at the peripherals only those reads. -/
structure OnlyRead (s u t : State) : Prop where
  store : NoStore s t
  peripherals : t.peripherals = u.peripherals
  draws : t.draws = u.draws

/-- The address names a cell of a writable Memory in canonical form. -/
def writableAt (s : State) (addr : Word) : Bool :=
  match route s addr with
  | .cell _ m _ => !m.readOnly && m.wf
  | .device _ _ _ => false
  | .unmapped => false

/-- The address names a cell of a read-only Memory, or the fallback range: a store to it is discarded. -/
def discardsAt (s : State) (addr : Word) : Bool :=
  match route s addr with
  | .cell _ m _ => m.readOnly
  | .device _ _ _ => false
  | .unmapped => true

/-- The address lies outside the cell that the address `ea` names. -/
def OutsideCell (s : State) (addr ea : Word) : Prop := cellOf s addr = none ∨ cellOf s addr ≠ cellOf s ea

/-- One byte `v` went to address `ea`, once, and nothing else was stored: `s` is the state before the instruction, `u` the
state just before the store, `t` the state after.  `cell` fixes the Memories and what the observers were told, so a second
store or a missed or repeated notice would break it; the log's form, newest first, is log entry 10's. -/
structure StoresByte (s u t : State) (ea : Word) (v : Byte) : Prop where
  written : writableAt s ea = true → ∀ addr, cellOf s addr = cellOf s ea → peek t addr = some v
  cell : ∀ k m off, route s ea = .cell k m off → m.readOnly = false →
    t.memories = s.memories.set k (m.put off v) ∧
      t.notifications = (m.observers.map fun o => ⟨k, o, off % m.cap, v⟩).reverse ++ s.notifications
  discarded : discardsAt s ea = true → NoStore s t ∧ t.peripherals = u.peripherals
  outside : ∀ addr, OutsideCell s addr ea → peek t addr = peek s addr
  device : ∀ k r w, route s ea = .device k r w → NoStore s t ∧ t.peripherals = recordAccess u.peripherals k (.write w v)
  memory : (∀ k r w, route s ea ≠ .device k r w) → t.peripherals = u.peripherals
  draws : t.draws = u.draws

/-- The page an address lies in. -/
def pageOf (w : Word) : Nat := w.toNat / 256

/-! ### The flag and result rules, by value -/

/-- The flags after `SetNZ(v)` (spec 40_addressing_modes R131). -/
def flagsNZ (p : Status) (v : Byte) : Status :=
  { p with n := decide (128 ≤ v.toNat), z := decide (v.toNat = 0) }

/-- The flags after `Compare(r, m)` (spec 43_alu R173). -/
def compareFlags (p : Status) (r m : Byte) : Status :=
  { flagsNZ p (BitVec.ofInt 8 (r.toNat - m.toNat)) with c := decide (m.toNat ≤ r.toNat) }

/-- The flags after BIT (spec 43_alu R182). -/
def bitFlags (p : Status) (a m : Byte) : Status :=
  { p with z := decide ((a &&& m).toNat = 0), n := m.getLsbD 7, v := m.getLsbD 6 }

/-- `AslCore(m)` (spec 44_shift_rotate R200). -/
def aslRule (m : Byte) (p : Status) : Byte × Status :=
  let r := BitVec.ofNat 8 (m.toNat * 2 % 256)
  (r, { flagsNZ p r with c := m.getLsbD 7 })

/-- `LsrCore(m)` (spec 44_shift_rotate R200). -/
def lsrRule (m : Byte) (p : Status) : Byte × Status :=
  let r := BitVec.ofNat 8 (m.toNat / 2)
  (r, { flagsNZ p r with c := m.getLsbD 0 })

/-- `RolCore(m)` (spec 44_shift_rotate R200). -/
def rolRule (m : Byte) (p : Status) : Byte × Status :=
  let r := BitVec.ofNat 8 (m.toNat * 2 % 256 + p.c.toNat)
  (r, { flagsNZ p r with c := m.getLsbD 7 })

/-- `RorCore(m)` (spec 44_shift_rotate R200). -/
def rorRule (m : Byte) (p : Status) : Byte × Status :=
  let r := BitVec.ofNat 8 (m.toNat / 2 + 128 * p.c.toNat)
  (r, { flagsNZ p r with c := m.getLsbD 0 })

/-- INC's byte and flags (spec 43_alu R183). -/
def incRule (m : Byte) (p : Status) : Byte × Status :=
  let r := BitVec.ofNat 8 ((m.toNat + 1) % 256)
  (r, flagsNZ p r)

/-- DEC's byte and flags (spec 43_alu R184). -/
def decRule (m : Byte) (p : Status) : Byte × Status :=
  let r := BitVec.ofNat 8 ((m.toNat + 255) % 256)
  (r, flagsNZ p r)

/-- P as PLP and RTI store a pulled byte: bit 5 reads 1, B is 0 (spec 42_stack R165, 45_control R224). -/
def pulledFlags (v : Byte) : Status :=
  ⟨v.getLsbD 7, v.getLsbD 6, false, v.getLsbD 3, v.getLsbD 2, v.getLsbD 1, v.getLsbD 0⟩

/-- The value of a packed-decimal byte. -/
def bcdValue (b : Byte) : Nat := 10 * (b.toNat / 16) + b.toNat % 16

/-- Both digits of a byte are decimal. -/
def isBcd (b : Byte) : Bool := decide (b.toNat / 16 ≤ 9) && decide (b.toNat % 16 ≤ 9)

/-- The decimal penalty (spec 40_addressing_modes R127). -/
def decimalCost (p : Status) : Nat := if p.d then 1 else 0

/-- The page-cross penalty of a read operand (spec 40_addressing_modes R126). -/
def crossCost (src : Source) (s : State) : Nat :=
  match src with
  | .immediate _ => 0
  | .memory m => if (resolve m s).crossed then 1 else 0

/-! ### The rows of the opcode tables -/

/-- The rows of LDA (spec R140). -/
def ldaRows (n : Byte) (nn : Word) : List (Row Source) :=
  [⟨.ldaIndX n, [0xA1, n], 6, .memory (.indexedIndirect n)⟩, ⟨.ldaZp n, [0xA5, n], 3, .memory (.zeroPage n)⟩,
   ⟨.ldaImm n, [0xA9, n], 2, .immediate n⟩, ⟨.ldaAbs nn, [0xAD, loByte nn, hiByte nn], 4, .memory (.absolute nn)⟩,
   ⟨.ldaIndY n, [0xB1, n], 5, .memory (.indirectIndexed n)⟩, ⟨.ldaZpX n, [0xB5, n], 4, .memory (.zeroPageX n)⟩,
   ⟨.ldaAbsY nn, [0xB9, loByte nn, hiByte nn], 4, .memory (.absoluteY nn)⟩, ⟨.ldaAbsX nn, [0xBD, loByte nn, hiByte nn], 4, .memory (.absoluteX nn)⟩]

/-- The rows of LDX (spec R141). -/
def ldxRows (n : Byte) (nn : Word) : List (Row Source) :=
  [⟨.ldxImm n, [0xA2, n], 2, .immediate n⟩, ⟨.ldxZp n, [0xA6, n], 3, .memory (.zeroPage n)⟩,
   ⟨.ldxAbs nn, [0xAE, loByte nn, hiByte nn], 4, .memory (.absolute nn)⟩, ⟨.ldxZpY n, [0xB6, n], 4, .memory (.zeroPageY n)⟩,
   ⟨.ldxAbsY nn, [0xBE, loByte nn, hiByte nn], 4, .memory (.absoluteY nn)⟩]

/-- The rows of LDY (spec R142). -/
def ldyRows (n : Byte) (nn : Word) : List (Row Source) :=
  [⟨.ldyImm n, [0xA0, n], 2, .immediate n⟩, ⟨.ldyZp n, [0xA4, n], 3, .memory (.zeroPage n)⟩,
   ⟨.ldyAbs nn, [0xAC, loByte nn, hiByte nn], 4, .memory (.absolute nn)⟩, ⟨.ldyZpX n, [0xB4, n], 4, .memory (.zeroPageX n)⟩,
   ⟨.ldyAbsX nn, [0xBC, loByte nn, hiByte nn], 4, .memory (.absoluteX nn)⟩]

/-- The rows of LAX (spec R245). -/
def laxRows (n : Byte) (nn : Word) : List (Row Source) :=
  [⟨.laxIndX n, [0xA3, n], 6, .memory (.indexedIndirect n)⟩, ⟨.laxZp n, [0xA7, n], 3, .memory (.zeroPage n)⟩,
   ⟨.laxAbs nn, [0xAF, loByte nn, hiByte nn], 4, .memory (.absolute nn)⟩, ⟨.laxIndY n, [0xB3, n], 5, .memory (.indirectIndexed n)⟩,
   ⟨.laxZpY n, [0xB7, n], 4, .memory (.zeroPageY n)⟩, ⟨.laxAbsY nn, [0xBF, loByte nn, hiByte nn], 4, .memory (.absoluteY nn)⟩]

/-- The rows of ADC (spec R174). -/
def adcRows (n : Byte) (nn : Word) : List (Row Source) :=
  [⟨.adcIndX n, [0x61, n], 6, .memory (.indexedIndirect n)⟩, ⟨.adcZp n, [0x65, n], 3, .memory (.zeroPage n)⟩,
   ⟨.adcImm n, [0x69, n], 2, .immediate n⟩, ⟨.adcAbs nn, [0x6D, loByte nn, hiByte nn], 4, .memory (.absolute nn)⟩,
   ⟨.adcIndY n, [0x71, n], 5, .memory (.indirectIndexed n)⟩, ⟨.adcZpX n, [0x75, n], 4, .memory (.zeroPageX n)⟩,
   ⟨.adcAbsY nn, [0x79, loByte nn, hiByte nn], 4, .memory (.absoluteY nn)⟩, ⟨.adcAbsX nn, [0x7D, loByte nn, hiByte nn], 4, .memory (.absoluteX nn)⟩]

/-- The rows of SBC (spec R175). -/
def sbcRows (n : Byte) (nn : Word) : List (Row Source) :=
  [⟨.sbcIndX n, [0xE1, n], 6, .memory (.indexedIndirect n)⟩, ⟨.sbcZp n, [0xE5, n], 3, .memory (.zeroPage n)⟩,
   ⟨.sbcImm n, [0xE9, n], 2, .immediate n⟩, ⟨.sbcAbs nn, [0xED, loByte nn, hiByte nn], 4, .memory (.absolute nn)⟩,
   ⟨.sbcIndY n, [0xF1, n], 5, .memory (.indirectIndexed n)⟩, ⟨.sbcZpX n, [0xF5, n], 4, .memory (.zeroPageX n)⟩,
   ⟨.sbcAbsY nn, [0xF9, loByte nn, hiByte nn], 4, .memory (.absoluteY nn)⟩, ⟨.sbcAbsX nn, [0xFD, loByte nn, hiByte nn], 4, .memory (.absoluteX nn)⟩]

/-- The rows of AND (spec R176). -/
def andRows (n : Byte) (nn : Word) : List (Row Source) :=
  [⟨.andIndX n, [0x21, n], 6, .memory (.indexedIndirect n)⟩, ⟨.andZp n, [0x25, n], 3, .memory (.zeroPage n)⟩,
   ⟨.andImm n, [0x29, n], 2, .immediate n⟩, ⟨.andAbs nn, [0x2D, loByte nn, hiByte nn], 4, .memory (.absolute nn)⟩,
   ⟨.andIndY n, [0x31, n], 5, .memory (.indirectIndexed n)⟩, ⟨.andZpX n, [0x35, n], 4, .memory (.zeroPageX n)⟩,
   ⟨.andAbsY nn, [0x39, loByte nn, hiByte nn], 4, .memory (.absoluteY nn)⟩, ⟨.andAbsX nn, [0x3D, loByte nn, hiByte nn], 4, .memory (.absoluteX nn)⟩]

/-- The rows of ORA (spec R177). -/
def oraRows (n : Byte) (nn : Word) : List (Row Source) :=
  [⟨.oraIndX n, [0x01, n], 6, .memory (.indexedIndirect n)⟩, ⟨.oraZp n, [0x05, n], 3, .memory (.zeroPage n)⟩,
   ⟨.oraImm n, [0x09, n], 2, .immediate n⟩, ⟨.oraAbs nn, [0x0D, loByte nn, hiByte nn], 4, .memory (.absolute nn)⟩,
   ⟨.oraIndY n, [0x11, n], 5, .memory (.indirectIndexed n)⟩, ⟨.oraZpX n, [0x15, n], 4, .memory (.zeroPageX n)⟩,
   ⟨.oraAbsY nn, [0x19, loByte nn, hiByte nn], 4, .memory (.absoluteY nn)⟩, ⟨.oraAbsX nn, [0x1D, loByte nn, hiByte nn], 4, .memory (.absoluteX nn)⟩]

/-- The rows of EOR (spec R178). -/
def eorRows (n : Byte) (nn : Word) : List (Row Source) :=
  [⟨.eorIndX n, [0x41, n], 6, .memory (.indexedIndirect n)⟩, ⟨.eorZp n, [0x45, n], 3, .memory (.zeroPage n)⟩,
   ⟨.eorImm n, [0x49, n], 2, .immediate n⟩, ⟨.eorAbs nn, [0x4D, loByte nn, hiByte nn], 4, .memory (.absolute nn)⟩,
   ⟨.eorIndY n, [0x51, n], 5, .memory (.indirectIndexed n)⟩, ⟨.eorZpX n, [0x55, n], 4, .memory (.zeroPageX n)⟩,
   ⟨.eorAbsY nn, [0x59, loByte nn, hiByte nn], 4, .memory (.absoluteY nn)⟩, ⟨.eorAbsX nn, [0x5D, loByte nn, hiByte nn], 4, .memory (.absoluteX nn)⟩]

/-- The rows of CMP (spec R179). -/
def cmpRows (n : Byte) (nn : Word) : List (Row Source) :=
  [⟨.cmpIndX n, [0xC1, n], 6, .memory (.indexedIndirect n)⟩, ⟨.cmpZp n, [0xC5, n], 3, .memory (.zeroPage n)⟩,
   ⟨.cmpImm n, [0xC9, n], 2, .immediate n⟩, ⟨.cmpAbs nn, [0xCD, loByte nn, hiByte nn], 4, .memory (.absolute nn)⟩,
   ⟨.cmpIndY n, [0xD1, n], 5, .memory (.indirectIndexed n)⟩, ⟨.cmpZpX n, [0xD5, n], 4, .memory (.zeroPageX n)⟩,
   ⟨.cmpAbsY nn, [0xD9, loByte nn, hiByte nn], 4, .memory (.absoluteY nn)⟩, ⟨.cmpAbsX nn, [0xDD, loByte nn, hiByte nn], 4, .memory (.absoluteX nn)⟩]

/-- The rows of CPX (spec R180). -/
def cpxRows (n : Byte) (nn : Word) : List (Row Source) :=
  [⟨.cpxImm n, [0xE0, n], 2, .immediate n⟩, ⟨.cpxZp n, [0xE4, n], 3, .memory (.zeroPage n)⟩,
   ⟨.cpxAbs nn, [0xEC, loByte nn, hiByte nn], 4, .memory (.absolute nn)⟩]

/-- The rows of CPY (spec R181). -/
def cpyRows (n : Byte) (nn : Word) : List (Row Source) :=
  [⟨.cpyImm n, [0xC0, n], 2, .immediate n⟩, ⟨.cpyZp n, [0xC4, n], 3, .memory (.zeroPage n)⟩,
   ⟨.cpyAbs nn, [0xCC, loByte nn, hiByte nn], 4, .memory (.absolute nn)⟩]

/-- The rows of BIT (spec R182). -/
def bitRows (n : Byte) (nn : Word) : List (Row Source) :=
  [⟨.bitZp n, [0x24, n], 3, .memory (.zeroPage n)⟩, ⟨.bitAbs nn, [0x2C, loByte nn, hiByte nn], 4, .memory (.absolute nn)⟩]

/-- USBC, the undocumented copy of SBC immediate (spec R252). -/
def usbcRows (n : Byte) : List (Row Source) := [⟨.usbc n, [0xEB, n], 2, .immediate n⟩]

/-- The rows of STA (spec R143). -/
def staRows (n : Byte) (nn : Word) : List (Row AddrMode) :=
  [⟨.staIndX n, [0x81, n], 6, .indexedIndirect n⟩, ⟨.staZp n, [0x85, n], 3, .zeroPage n⟩,
   ⟨.staAbs nn, [0x8D, loByte nn, hiByte nn], 4, .absolute nn⟩, ⟨.staIndY n, [0x91, n], 6, .indirectIndexed n⟩,
   ⟨.staZpX n, [0x95, n], 4, .zeroPageX n⟩, ⟨.staAbsY nn, [0x99, loByte nn, hiByte nn], 5, .absoluteY nn⟩,
   ⟨.staAbsX nn, [0x9D, loByte nn, hiByte nn], 5, .absoluteX nn⟩]

/-- The rows of STX (spec R144). -/
def stxRows (n : Byte) (nn : Word) : List (Row AddrMode) :=
  [⟨.stxZp n, [0x86, n], 3, .zeroPage n⟩, ⟨.stxAbs nn, [0x8E, loByte nn, hiByte nn], 4, .absolute nn⟩,
   ⟨.stxZpY n, [0x96, n], 4, .zeroPageY n⟩]

/-- The rows of STY (spec R145). -/
def styRows (n : Byte) (nn : Word) : List (Row AddrMode) :=
  [⟨.styZp n, [0x84, n], 3, .zeroPage n⟩, ⟨.styAbs nn, [0x8C, loByte nn, hiByte nn], 4, .absolute nn⟩,
   ⟨.styZpX n, [0x94, n], 4, .zeroPageX n⟩]

/-- The rows of SAX (spec R244). -/
def saxRows (n : Byte) (nn : Word) : List (Row AddrMode) :=
  [⟨.saxIndX n, [0x83, n], 6, .indexedIndirect n⟩, ⟨.saxZp n, [0x87, n], 3, .zeroPage n⟩,
   ⟨.saxAbs nn, [0x8F, loByte nn, hiByte nn], 4, .absolute nn⟩, ⟨.saxZpY n, [0x97, n], 4, .zeroPageY n⟩]

/-- The rows of SLO (spec R240). -/
def sloRows (n : Byte) (nn : Word) : List (Row AddrMode) :=
  [⟨.sloIndX n, [0x03, n], 8, .indexedIndirect n⟩, ⟨.sloZp n, [0x07, n], 5, .zeroPage n⟩,
   ⟨.sloAbs nn, [0x0F, loByte nn, hiByte nn], 6, .absolute nn⟩, ⟨.sloIndY n, [0x13, n], 8, .indirectIndexed n⟩,
   ⟨.sloZpX n, [0x17, n], 6, .zeroPageX n⟩, ⟨.sloAbsY nn, [0x1B, loByte nn, hiByte nn], 7, .absoluteY nn⟩,
   ⟨.sloAbsX nn, [0x1F, loByte nn, hiByte nn], 7, .absoluteX nn⟩]

/-- The rows of RLA (spec R241). -/
def rlaRows (n : Byte) (nn : Word) : List (Row AddrMode) :=
  [⟨.rlaIndX n, [0x23, n], 8, .indexedIndirect n⟩, ⟨.rlaZp n, [0x27, n], 5, .zeroPage n⟩,
   ⟨.rlaAbs nn, [0x2F, loByte nn, hiByte nn], 6, .absolute nn⟩, ⟨.rlaIndY n, [0x33, n], 8, .indirectIndexed n⟩,
   ⟨.rlaZpX n, [0x37, n], 6, .zeroPageX n⟩, ⟨.rlaAbsY nn, [0x3B, loByte nn, hiByte nn], 7, .absoluteY nn⟩,
   ⟨.rlaAbsX nn, [0x3F, loByte nn, hiByte nn], 7, .absoluteX nn⟩]

/-- The rows of SRE (spec R242). -/
def sreRows (n : Byte) (nn : Word) : List (Row AddrMode) :=
  [⟨.sreIndX n, [0x43, n], 8, .indexedIndirect n⟩, ⟨.sreZp n, [0x47, n], 5, .zeroPage n⟩,
   ⟨.sreAbs nn, [0x4F, loByte nn, hiByte nn], 6, .absolute nn⟩, ⟨.sreIndY n, [0x53, n], 8, .indirectIndexed n⟩,
   ⟨.sreZpX n, [0x57, n], 6, .zeroPageX n⟩, ⟨.sreAbsY nn, [0x5B, loByte nn, hiByte nn], 7, .absoluteY nn⟩,
   ⟨.sreAbsX nn, [0x5F, loByte nn, hiByte nn], 7, .absoluteX nn⟩]

/-- The rows of RRA (spec R243). -/
def rraRows (n : Byte) (nn : Word) : List (Row AddrMode) :=
  [⟨.rraIndX n, [0x63, n], 8, .indexedIndirect n⟩, ⟨.rraZp n, [0x67, n], 5, .zeroPage n⟩,
   ⟨.rraAbs nn, [0x6F, loByte nn, hiByte nn], 6, .absolute nn⟩, ⟨.rraIndY n, [0x73, n], 8, .indirectIndexed n⟩,
   ⟨.rraZpX n, [0x77, n], 6, .zeroPageX n⟩, ⟨.rraAbsY nn, [0x7B, loByte nn, hiByte nn], 7, .absoluteY nn⟩,
   ⟨.rraAbsX nn, [0x7F, loByte nn, hiByte nn], 7, .absoluteX nn⟩]

/-- The rows of DCP (spec R246). -/
def dcpRows (n : Byte) (nn : Word) : List (Row AddrMode) :=
  [⟨.dcpIndX n, [0xC3, n], 8, .indexedIndirect n⟩, ⟨.dcpZp n, [0xC7, n], 5, .zeroPage n⟩,
   ⟨.dcpAbs nn, [0xCF, loByte nn, hiByte nn], 6, .absolute nn⟩, ⟨.dcpIndY n, [0xD3, n], 8, .indirectIndexed n⟩,
   ⟨.dcpZpX n, [0xD7, n], 6, .zeroPageX n⟩, ⟨.dcpAbsY nn, [0xDB, loByte nn, hiByte nn], 7, .absoluteY nn⟩,
   ⟨.dcpAbsX nn, [0xDF, loByte nn, hiByte nn], 7, .absoluteX nn⟩]

/-- The rows of ISC (spec R247). -/
def iscRows (n : Byte) (nn : Word) : List (Row AddrMode) :=
  [⟨.iscIndX n, [0xE3, n], 8, .indexedIndirect n⟩, ⟨.iscZp n, [0xE7, n], 5, .zeroPage n⟩,
   ⟨.iscAbs nn, [0xEF, loByte nn, hiByte nn], 6, .absolute nn⟩, ⟨.iscIndY n, [0xF3, n], 8, .indirectIndexed n⟩,
   ⟨.iscZpX n, [0xF7, n], 6, .zeroPageX n⟩, ⟨.iscAbsY nn, [0xFB, loByte nn, hiByte nn], 7, .absoluteY nn⟩,
   ⟨.iscAbsX nn, [0xFF, loByte nn, hiByte nn], 7, .absoluteX nn⟩]

/-- The memory rows of INC (spec R183). -/
def incRows (n : Byte) (nn : Word) : List (Row AddrMode) :=
  [⟨.incZp n, [0xE6, n], 5, .zeroPage n⟩, ⟨.incAbs nn, [0xEE, loByte nn, hiByte nn], 6, .absolute nn⟩,
   ⟨.incZpX n, [0xF6, n], 6, .zeroPageX n⟩, ⟨.incAbsX nn, [0xFE, loByte nn, hiByte nn], 7, .absoluteX nn⟩]

/-- The memory rows of DEC (spec R184). -/
def decRows (n : Byte) (nn : Word) : List (Row AddrMode) :=
  [⟨.decZp n, [0xC6, n], 5, .zeroPage n⟩, ⟨.decAbs nn, [0xCE, loByte nn, hiByte nn], 6, .absolute nn⟩,
   ⟨.decZpX n, [0xD6, n], 6, .zeroPageX n⟩, ⟨.decAbsX nn, [0xDE, loByte nn, hiByte nn], 7, .absoluteX nn⟩]

/-- The memory rows of ASL (spec R201). -/
def aslRows (n : Byte) (nn : Word) : List (Row AddrMode) :=
  [⟨.aslZp n, [0x06, n], 5, .zeroPage n⟩, ⟨.aslAbs nn, [0x0E, loByte nn, hiByte nn], 6, .absolute nn⟩,
   ⟨.aslZpX n, [0x16, n], 6, .zeroPageX n⟩, ⟨.aslAbsX nn, [0x1E, loByte nn, hiByte nn], 7, .absoluteX nn⟩]

/-- The memory rows of LSR (spec R202). -/
def lsrRows (n : Byte) (nn : Word) : List (Row AddrMode) :=
  [⟨.lsrZp n, [0x46, n], 5, .zeroPage n⟩, ⟨.lsrAbs nn, [0x4E, loByte nn, hiByte nn], 6, .absolute nn⟩,
   ⟨.lsrZpX n, [0x56, n], 6, .zeroPageX n⟩, ⟨.lsrAbsX nn, [0x5E, loByte nn, hiByte nn], 7, .absoluteX nn⟩]

/-- The memory rows of ROL (spec R203). -/
def rolRows (n : Byte) (nn : Word) : List (Row AddrMode) :=
  [⟨.rolZp n, [0x26, n], 5, .zeroPage n⟩, ⟨.rolAbs nn, [0x2E, loByte nn, hiByte nn], 6, .absolute nn⟩,
   ⟨.rolZpX n, [0x36, n], 6, .zeroPageX n⟩, ⟨.rolAbsX nn, [0x3E, loByte nn, hiByte nn], 7, .absoluteX nn⟩]

/-- The memory rows of ROR (spec R204). -/
def rorRows (n : Byte) (nn : Word) : List (Row AddrMode) :=
  [⟨.rorZp n, [0x66, n], 5, .zeroPage n⟩, ⟨.rorAbs nn, [0x6E, loByte nn, hiByte nn], 6, .absolute nn⟩,
   ⟨.rorZpX n, [0x76, n], 6, .zeroPageX n⟩, ⟨.rorAbsX nn, [0x7E, loByte nn, hiByte nn], 7, .absoluteX nn⟩]

/-- The undocumented NOPs with an address operand (spec 47_illegal R253). -/
def nopRows (n : Byte) (nn : Word) : List (Row AddrMode) :=
  [⟨.nop04 n, [0x04, n], 3, .zeroPage n⟩, ⟨.nop0C nn, [0x0C, loByte nn, hiByte nn], 4, .absolute nn⟩,
   ⟨.nop14 n, [0x14, n], 4, .zeroPageX n⟩, ⟨.nop1C nn, [0x1C, loByte nn, hiByte nn], 4, .absoluteX nn⟩,
   ⟨.nop34 n, [0x34, n], 4, .zeroPageX n⟩, ⟨.nop3C nn, [0x3C, loByte nn, hiByte nn], 4, .absoluteX nn⟩,
   ⟨.nop44 n, [0x44, n], 3, .zeroPage n⟩, ⟨.nop54 n, [0x54, n], 4, .zeroPageX n⟩,
   ⟨.nop5C nn, [0x5C, loByte nn, hiByte nn], 4, .absoluteX nn⟩, ⟨.nop64 n, [0x64, n], 3, .zeroPage n⟩,
   ⟨.nop74 n, [0x74, n], 4, .zeroPageX n⟩, ⟨.nop7C nn, [0x7C, loByte nn, hiByte nn], 4, .absoluteX nn⟩,
   ⟨.nopD4 n, [0xD4, n], 4, .zeroPageX n⟩, ⟨.nopDC nn, [0xDC, loByte nn, hiByte nn], 4, .absoluteX nn⟩,
   ⟨.nopF4 n, [0xF4, n], 4, .zeroPageX n⟩, ⟨.nopFC nn, [0xFC, loByte nn, hiByte nn], 4, .absoluteX nn⟩]

/-- The NOPs of one byte (spec 46_flags_nop R237, 47_illegal R253). -/
def impliedNopRows : List (Row Unit) :=
  [⟨.nop1A, [0x1A], 2, ()⟩, ⟨.nop3A, [0x3A], 2, ()⟩,
   ⟨.nop5A, [0x5A], 2, ()⟩, ⟨.nop7A, [0x7A], 2, ()⟩,
   ⟨.nopDA, [0xDA], 2, ()⟩, ⟨.nop, [0xEA], 2, ()⟩,
   ⟨.nopFA, [0xFA], 2, ()⟩]

/-- The NOPs that pass over an immediate byte (spec 47_illegal R253). -/
def immediateNopRows : List (Row Unit) :=
  [⟨.nop80, [0x80, 0x00], 2, ()⟩, ⟨.nop82, [0x82, 0x00], 2, ()⟩,
   ⟨.nop89, [0x89, 0x00], 2, ()⟩, ⟨.nopC2, [0xC2, 0x00], 2, ()⟩,
   ⟨.nopE2, [0xE2, 0x00], 2, ()⟩]

/-- The JAM opcodes (spec 47_illegal R254). -/
def jamRows : List (Row Unit) :=
  [⟨.jam02, [0x02], 2, ()⟩, ⟨.jam12, [0x12], 2, ()⟩,
   ⟨.jam22, [0x22], 2, ()⟩, ⟨.jam32, [0x32], 2, ()⟩,
   ⟨.jam42, [0x42], 2, ()⟩, ⟨.jam52, [0x52], 2, ()⟩,
   ⟨.jam62, [0x62], 2, ()⟩, ⟨.jam72, [0x72], 2, ()⟩,
   ⟨.jam92, [0x92], 2, ()⟩, ⟨.jamB2, [0xB2], 2, ()⟩,
   ⟨.jamD2, [0xD2], 2, ()⟩, ⟨.jamF2, [0xF2], 2, ()⟩]

/-- The unstable slots with an address operand (spec 47_illegal R255). -/
def unstableRows (n : Byte) (nn : Word) : List (Row AddrMode) :=
  [⟨.shaIndY n, [0x93, n], 6, .indirectIndexed n⟩, ⟨.tas nn, [0x9B, loByte nn, hiByte nn], 5, .absoluteY nn⟩,
   ⟨.shy nn, [0x9C, loByte nn, hiByte nn], 5, .absoluteX nn⟩, ⟨.shx nn, [0x9E, loByte nn, hiByte nn], 5, .absoluteY nn⟩,
   ⟨.shaAbsY nn, [0x9F, loByte nn, hiByte nn], 5, .absoluteY nn⟩, ⟨.las nn, [0xBB, loByte nn, hiByte nn], 4, .absoluteY nn⟩]

/-- The unstable slots with an immediate operand (spec 47_illegal R255). -/
def unstableImmediateRows : List (Row Unit) :=
  [⟨.ane, [0x8B, 0x00], 2, ()⟩, ⟨.lxa, [0xAB, 0x00], 2, ()⟩]

/-- The eight unstable slots (spec 47_illegal R255). -/
def unstableOpcodes : List Byte := [0x8B, 0x93, 0x9B, 0x9C, 0x9E, 0x9F, 0xAB, 0xBB]

/-- The eight branches with their conditions (spec 45_control R215 to R222). -/
def branchRows (d : Byte) : List (Row (Status → Bool)) :=
  [⟨.bpl d, [0x10, d], 2, fun p => !p.n⟩, ⟨.bmi d, [0x30, d], 2, fun p => p.n⟩,
   ⟨.bvc d, [0x50, d], 2, fun p => !p.v⟩, ⟨.bvs d, [0x70, d], 2, fun p => p.v⟩,
   ⟨.bcc d, [0x90, d], 2, fun p => !p.c⟩, ⟨.bcs d, [0xB0, d], 2, fun p => p.c⟩,
   ⟨.bne d, [0xD0, d], 2, fun p => !p.z⟩, ⟨.beq d, [0xF0, d], 2, fun p => p.z⟩]

/-! ### Which opcodes may write what (spec 10_state R21 to R24 and R29) -/

/-- The opcodes that write N or Z (spec 10_state R29). -/
def nzWriters : List Byte :=
  [0x01, 0x03, 0x05, 0x06, 0x07, 0x09, 0x0A, 0x0B, 0x0D, 0x0E, 0x0F, 0x11, 0x13, 0x15, 0x16, 0x17,
   0x19, 0x1B, 0x1D, 0x1E, 0x1F, 0x21, 0x23, 0x24, 0x25, 0x26, 0x27, 0x28, 0x29, 0x2A, 0x2B, 0x2C,
   0x2D, 0x2E, 0x2F, 0x31, 0x33, 0x35, 0x36, 0x37, 0x39, 0x3B, 0x3D, 0x3E, 0x3F, 0x40, 0x41, 0x43,
   0x45, 0x46, 0x47, 0x49, 0x4A, 0x4B, 0x4D, 0x4E, 0x4F, 0x51, 0x53, 0x55, 0x56, 0x57, 0x59, 0x5B,
   0x5D, 0x5E, 0x5F, 0x61, 0x63, 0x65, 0x66, 0x67, 0x68, 0x69, 0x6A, 0x6B, 0x6D, 0x6E, 0x6F, 0x71,
   0x73, 0x75, 0x76, 0x77, 0x79, 0x7B, 0x7D, 0x7E, 0x7F, 0x88, 0x8A, 0x98, 0xA0, 0xA1, 0xA2, 0xA3,
   0xA4, 0xA5, 0xA6, 0xA7, 0xA8, 0xA9, 0xAA, 0xAC, 0xAD, 0xAE, 0xAF, 0xB1, 0xB3, 0xB4, 0xB5, 0xB6,
   0xB7, 0xB9, 0xBA, 0xBC, 0xBD, 0xBE, 0xBF, 0xC0, 0xC1, 0xC3, 0xC4, 0xC5, 0xC6, 0xC7, 0xC8, 0xC9,
   0xCA, 0xCB, 0xCC, 0xCD, 0xCE, 0xCF, 0xD1, 0xD3, 0xD5, 0xD6, 0xD7, 0xD9, 0xDB, 0xDD, 0xDE, 0xDF,
   0xE0, 0xE1, 0xE3, 0xE4, 0xE5, 0xE6, 0xE7, 0xE8, 0xE9, 0xEB, 0xEC, 0xED, 0xEE, 0xEF, 0xF1, 0xF3,
   0xF5, 0xF6, 0xF7, 0xF9, 0xFB, 0xFD, 0xFE, 0xFF]

/-- The opcodes that write V (spec 10_state R29). -/
def vWriters : List Byte :=
  [0x24, 0x28, 0x2C, 0x40, 0x61, 0x63, 0x65, 0x67, 0x69, 0x6B, 0x6D, 0x6F, 0x71, 0x73, 0x75, 0x77,
   0x79, 0x7B, 0x7D, 0x7F, 0xB8, 0xE1, 0xE3, 0xE5, 0xE7, 0xE9, 0xEB, 0xED, 0xEF, 0xF1, 0xF3, 0xF5,
   0xF7, 0xF9, 0xFB, 0xFD, 0xFF]

/-- The opcodes that write C (spec 10_state R29). -/
def cWriters : List Byte :=
  [0x03, 0x06, 0x07, 0x0A, 0x0B, 0x0E, 0x0F, 0x13, 0x16, 0x17, 0x18, 0x1B, 0x1E, 0x1F, 0x23, 0x26,
   0x27, 0x28, 0x2A, 0x2B, 0x2E, 0x2F, 0x33, 0x36, 0x37, 0x38, 0x3B, 0x3E, 0x3F, 0x40, 0x43, 0x46,
   0x47, 0x4A, 0x4B, 0x4E, 0x4F, 0x53, 0x56, 0x57, 0x5B, 0x5E, 0x5F, 0x61, 0x63, 0x65, 0x66, 0x67,
   0x69, 0x6A, 0x6B, 0x6D, 0x6E, 0x6F, 0x71, 0x73, 0x75, 0x76, 0x77, 0x79, 0x7B, 0x7D, 0x7E, 0x7F,
   0xC0, 0xC1, 0xC3, 0xC4, 0xC5, 0xC7, 0xC9, 0xCB, 0xCC, 0xCD, 0xCF, 0xD1, 0xD3, 0xD5, 0xD7, 0xD9,
   0xDB, 0xDD, 0xDF, 0xE0, 0xE1, 0xE3, 0xE4, 0xE5, 0xE7, 0xE9, 0xEB, 0xEC, 0xED, 0xEF, 0xF1, 0xF3,
   0xF5, 0xF7, 0xF9, 0xFB, 0xFD, 0xFF]

/-- The opcodes that write D (spec 10_state R29). -/
def dWriters : List Byte :=
  [0x28, 0x40, 0xD8, 0xF8]

/-- The opcodes that write I (spec 10_state R29). -/
def iWriters : List Byte :=
  [0x00, 0x28, 0x40, 0x58, 0x78]

/-- The opcodes that write the stored B (spec 10_state R28, R29). -/
def bWriters : List Byte :=
  [0x28, 0x40]

/-- The opcodes that write S: TXS, and every push and pull (spec 10_state R24). -/
def spWriters : List Byte :=
  [0x00, 0x08, 0x20, 0x28, 0x40, 0x48, 0x60, 0x68, 0x9A]

/-- The opcodes that write A, the accumulator shifts among them (spec 10_state R21). -/
def aWriters : List Byte :=
  [0x01, 0x03, 0x05, 0x07, 0x09, 0x0A, 0x0B, 0x0D, 0x0F, 0x11, 0x13, 0x15, 0x17, 0x19, 0x1B, 0x1D,
   0x1F, 0x21, 0x23, 0x25, 0x27, 0x29, 0x2A, 0x2B, 0x2D, 0x2F, 0x31, 0x33, 0x35, 0x37, 0x39, 0x3B,
   0x3D, 0x3F, 0x41, 0x43, 0x45, 0x47, 0x49, 0x4A, 0x4B, 0x4D, 0x4F, 0x51, 0x53, 0x55, 0x57, 0x59,
   0x5B, 0x5D, 0x5F, 0x61, 0x63, 0x65, 0x67, 0x68, 0x69, 0x6A, 0x6B, 0x6D, 0x6F, 0x71, 0x73, 0x75,
   0x77, 0x79, 0x7B, 0x7D, 0x7F, 0x8A, 0x98, 0xA1, 0xA3, 0xA5, 0xA7, 0xA9, 0xAD, 0xAF, 0xB1, 0xB3,
   0xB5, 0xB7, 0xB9, 0xBD, 0xBF, 0xE1, 0xE3, 0xE5, 0xE7, 0xE9, 0xEB, 0xED, 0xEF, 0xF1, 0xF3, 0xF5,
   0xF7, 0xF9, 0xFB, 0xFD, 0xFF]

/-- The opcodes that write X (spec 10_state R22). -/
def xWriters : List Byte :=
  [0xA2, 0xA3, 0xA6, 0xA7, 0xAA, 0xAE, 0xAF, 0xB3, 0xB6, 0xB7, 0xBA, 0xBE, 0xBF, 0xCA, 0xCB, 0xE8]

/-- The opcodes that write Y (spec 10_state R23). -/
def yWriters : List Byte :=
  [0x88, 0xA0, 0xA4, 0xA8, 0xAC, 0xB4, 0xBC, 0xC8]

/-- The opcodes that write PC themselves (spec 45_control). -/
def pcWriters : List Byte :=
  [0x00, 0x10, 0x20, 0x30, 0x40, 0x4C, 0x50, 0x60, 0x6C, 0x70, 0x90, 0xB0, 0xD0, 0xF0]

/-! ### Shapes of results -/

/-- The frame of an instruction whose only Bus accesses are the reads of its operand: nothing stored, the peripherals as the
operand's reads left them, the penalty grown by `cost`. -/
structure ReadsOnly (src : Source) (s t : State) (cost : Nat) : Prop where
  hidden : HiddenKept s t
  bus : OnlyRead s (readOperand src s).2 t
  penalty : t.penalty = s.penalty + cost

/-- A read instruction puts the operand where `regs` says and sets N and Z by it. -/
def LoadsInto (rows : List (Row Source)) (s : State) (regs : State → Byte → Prop) : Prop :=
  EachCompletes rows s fun src t =>
    regs t (readOperand src s).1 ∧ t.p = flagsNZ s.p (readOperand src s).1 ∧ ReadsOnly src s t (crossCost src s)

/-- A logical instruction puts `op A m` into A and sets N and Z by it. -/
def CombinesIntoA (rows : List (Row Source)) (s : State) (op : Byte → Byte → Byte) : Prop :=
  EachCompletes rows s fun src t =>
    let v := op s.a (readOperand src s).1
    RegsAre t v s.x s.y s.sp s.pc ∧ t.p = flagsNZ s.p v ∧ ReadsOnly src s t (crossCost src s)

/-- An addition or subtraction: A and the flags are `core`'s, and D costs one cycle (spec 40_addressing_modes R127). -/
def AddsIntoA (rows : List (Row Source)) (s : State) (core : Byte → Byte → Status → Byte × Status) : Prop :=
  EachCompletes rows s fun src t =>
    let v := core s.a (readOperand src s).1 s.p
    RegsAre t v.1 s.x s.y s.sp s.pc ∧ t.p = v.2 ∧ ReadsOnly src s t (crossCost src s + decimalCost s.p)

/-- A compare or bit test writes flags only, as `flags` says of the operand. -/
def SetsFlags (rows : List (Row Source)) (s : State) (flags : Byte → Status) : Prop :=
  EachCompletes rows s fun src t =>
    RegsAre t s.a s.x s.y s.sp s.pc ∧ t.p = flags (readOperand src s).1 ∧ ReadsOnly src s t (crossCost src s)

/-- A store instruction writes `v` at the effective address of its mode and changes no register and no flag; it never pays
for a page cross (spec 40_addressing_modes R126). -/
def StoresValue (rows : List (Row AddrMode)) (s : State) (v : Byte) : Prop :=
  EachCompletes rows s fun m t =>
    RegsAre t s.a s.x s.y s.sp s.pc ∧ t.p = s.p ∧ HiddenKept s t ∧ t.penalty = s.penalty ∧
      StoresByte s (resolve m s).state t (resolve m s).ea v

/-- The byte a read-modify-write instruction reads, and the state after that read. -/
def modifyRead (m : AddrMode) (s : State) : Byte × State := load (resolve m s).state (resolve m s).ea

/-- A read-modify-write instruction: `core` gives the new byte at the effective address and the new flags; no register
changes and no page cross is charged (spec 20_memory R72, 40_addressing_modes R126). -/
def ModifiesMemory (rows : List (Row AddrMode)) (s : State) (core : Byte → Status → Byte × Status) : Prop :=
  EachCompletes rows s fun m t =>
    let v := modifyRead m s
    RegsAre t s.a s.x s.y s.sp s.pc ∧ t.p = (core v.1 s.p).2 ∧ HiddenKept s t ∧ t.penalty = s.penalty ∧
      StoresByte s v.2 t (resolve m s).ea (core v.1 s.p).1

/-- An undocumented composite: `core` modifies the byte in place, then `finish` gives A and the flags from A, the new byte and
the flags `core` left; `cost` is the decimal penalty. -/
def Composes (rows : List (Row AddrMode)) (s : State) (core : Byte → Status → Byte × Status)
    (finish : Byte → Byte → Status → Byte × Status) (cost : Nat) : Prop :=
  EachCompletes rows s fun m t =>
    let v := modifyRead m s
    let w := core v.1 s.p
    let f := finish s.a w.1 w.2
    RegsAre t f.1 s.x s.y s.sp s.pc ∧ t.p = f.2 ∧ HiddenKept s t ∧ t.penalty = s.penalty + cost ∧
      StoresByte s v.2 t (resolve m s).ea w.1

/-! ### The stack and interrupt entry -/

/-- The byte a push of one byte writes lies in a writable Memory. -/
def stackReady1 (s : State) : Bool := writableAt s (stackAddr s.sp)

/-- The bytes two pushes write lie in writable Memory, in two different cells. -/
def stackReady2 (s : State) : Bool :=
  stackReady1 s && writableAt s (stackAddr (s.sp - 1)) && cellOf s (stackAddr s.sp) != cellOf s (stackAddr (s.sp - 1))

/-- The bytes three pushes write lie in writable Memory, in three different cells. -/
def stackReady3 (s : State) : Bool :=
  stackReady2 s && writableAt s (stackAddr (s.sp - 2)) &&
    cellOf s (stackAddr s.sp) != cellOf s (stackAddr (s.sp - 2)) &&
    cellOf s (stackAddr (s.sp - 1)) != cellOf s (stackAddr (s.sp - 2))

/-- The three pushes of an interrupt entry: PCH, PCL, then P with bit 5 one and bit 4 the Break bit `b`. -/
def entryPushes (b : Bool) (ret : Word) (s : State) : State :=
  push (push (push s (hiByte ret)) (loByte ret)) (Status.toByte { s.p with b := b })

/-- What the interrupt entry leaves (spec 60_exceptions R271): `s` before it, `t` after it, `ret` the pushed address, `b` the
pushed Break bit. -/
structure Entered (b : Bool) (ret : Word) (s t : State) : Prop where
  regs : RegsAre t s.a s.x s.y (s.sp - 3) (loadWord (entryPushes b ret s) 0xFFFE).1
  p : t.p = { s.p with i := true }
  hidden : HiddenKept s t
  penalty : t.penalty = s.penalty
  pch : stackReady3 s = true → peek t (stackAddr s.sp) = some (hiByte ret)
  pcl : stackReady3 s = true → peek t (stackAddr (s.sp - 1)) = some (loByte ret)
  status : stackReady3 s = true → peek t (stackAddr (s.sp - 2)) = some (Status.toByte { s.p with b := b })
  outside : ∀ addr, OutsideCell s addr (stackAddr s.sp) → OutsideCell s addr (stackAddr (s.sp - 1)) →
    OutsideCell s addr (stackAddr (s.sp - 2)) → peek t addr = peek s addr
  vector : ∀ lo hi, peek t 0xFFFE = some lo → peek t 0xFFFF = some hi → t.pc = mkWord hi lo
  memories : t.memories = (entryPushes b ret s).memories
  notifications : t.notifications = (entryPushes b ret s).notifications
  peripherals : t.peripherals = (loadWord (entryPushes b ret s) 0xFFFE).2.peripherals
  draws : t.draws = (loadWord (entryPushes b ret s) 0xFFFE).2.draws

/-- The machine runs on the console Bus (spec 20_memory R60) with these two Memories behind it. -/
structure OnConsole (s : State) (rom ram : Memory) : Prop where
  mask : s.cfg.addrMask = 0x1FFF
  map : s.cfg.busMap = consoleMap
  memories : s.memories = [rom, ram]

/-- The state with another stored Break flag. -/
def withBreak (s : State) (b : Bool) : State := { s with p := { s.p with b := b } }

/-- The state with a larger elapsed cycle count. -/
def withMoreTotal (s : State) (n : Nat) : State := { s with total := s.total + n }

end Sys2Proof.Claims

open Sys2Proof Sys2Proof.Machine Sys2Proof.Claims

/-! ### Encoding -/

/-- Decoding the encoding of any well-formed instruction gives it back (30_encoding R90, 30_encoding R92, 30_encoding R93, 30_encoding R94). -/
def Obligations.DecodeOfEncode : Prop :=
  ∀ (i : Instr) (rest : List Byte), i.wf = true → decode (encode i ++ rest) = .ok (i, rest)

/-- Every opcode byte decodes, to an instruction of that opcode whose length the opcode alone fixes (30_encoding R90, 30_encoding R92, 30_encoding R94, 30_encoding R97). -/
def Obligations.DecoderIsTotal : Prop :=
  ∀ (op b1 b2 : Byte) (rest : List Byte), ∃ i,
    decode (op :: b1 :: b2 :: rest) = .ok (i, (op :: b1 :: b2 :: rest).drop i.length) ∧
    i.length = (slotOf op).length ∧ 1 ≤ i.length ∧ i.length ≤ 3 ∧ i.opcode = op ∧
    ((slotOf op).fetched = (slotOf op).length → encode i = (op :: b1 :: b2 :: rest).take i.length)

/-- The encodings the spec writes out decode to the instructions they stand for (30_encoding R99, 30_encoding R95). -/
def Obligations.OpcodeWordsDecode : Prop :=
  decode [0x9A] = .ok (.txs, []) ∧ decode [0x0A] = .ok (.aslAcc, []) ∧ decode [0xA2, 0xFF] = .ok (.ldxImm 0xFF, []) ∧
    decode [0xA5, 0x80] = .ok (.ldaZp 0x80, []) ∧ decode [0xB5, 0x80] = .ok (.ldaZpX 0x80, []) ∧
    decode [0xB6, 0x80] = .ok (.ldxZpY 0x80, []) ∧ decode [0x4C, 0x00, 0xF0] = .ok (.jmpAbs 0xF000, []) ∧
    decode [0x9D, 0x00, 0x02] = .ok (.staAbsX 0x0200, []) ∧ decode [0xB9, 0x00, 0x02] = .ok (.ldaAbsY 0x0200, []) ∧
    decode [0x6C, 0xFF, 0x30] = .ok (.jmpInd 0x30FF, []) ∧ decode [0xA1, 0x20] = .ok (.ldaIndX 0x20, []) ∧
    decode [0xB1, 0x20] = .ok (.ldaIndY 0x20, []) ∧ decode [0xD0, 0xFB] = .ok (.bne 0xFB, []) ∧
    decode [0x00, 0x77] = .ok (.brk, []) ∧ decode [0xF2] = .ok (.jamF2, [])

/-! ### The step -/

/-- A step runs the instruction whose bytes stand at PC (40_addressing_modes R110, 40_addressing_modes R111, 10_state R31, 10_state R32, 60_exceptions R279). -/
def Obligations.StepRunsTheDecodedInstruction : Prop :=
  ∀ (s : State) (bs rest : List Byte) (i : Instr), i.wf = true → decode bs = .ok (i, rest) →
    (∀ k, k < (slotOf (bs.headD 0)).fetched → peek s (s.pc + BitVec.ofNat 16 k) = bs[k]?) →
    s.jammed = false → irqTaken s = false →
    let op := bs.headD 0
    let u : State := { s with pc := s.pc + BitVec.ofNat 16 (slotOf op).fetched, currentOpcode := op, penalty := 0 }
    (∀ t, exec i u = .next t →
      cpuStep s = .next (t, nominalCycles s.cfg op + t.penalty) ∧
        step s = .next (computerTick (nominalCycles s.cfg op + t.penalty) t)) ∧
    (∀ r, exec i u = .refused r → step s = .refused r)

/-- A Computer step adds its cycles to the count and to the ticks of each rated peripheral, and no more (no rate, no tick: model's choice, log entry 17) (60_exceptions R279, 60_exceptions R280, 70_reset_and_hazards R300). -/
def Obligations.StepCountsCycles : Prop :=
  (∀ (s u : State) (c : Nat), cpuStep s = .next (u, c) → ∃ ps : List Peripheral,
    step s = .next { u with total := u.total + c, peripherals := ps } ∧ ps.length = u.peripherals.length ∧
    (∀ (k : Nat) (p : Peripheral) (rate : Nat), u.peripherals[k]? = some p → u.cfg.ticksPerCycle[k]? = some rate →
      ps[k]? = some (⟨p.ticks + c * rate, p.accesses⟩ : Peripheral)) ∧
    (∀ (k : Nat) (p : Peripheral), u.peripherals[k]? = some p → u.cfg.ticksPerCycle[k]? = none → ps[k]? = some p)) ∧
  (∀ (s : State) (r : Refusal), cpuStep s = .refused r → step s = .refused r) ∧
  Config.console.ticksPerCycle = [3, 1]

/-- A step costs 0 when jammed, IRQ_CYCLES for an IRQ entry, else the table's entry plus at most 2 (40_addressing_modes R129, 70_reset_and_hazards R300, 70_reset_and_hazards R302, 60_exceptions R272, 60_exceptions R285). -/
def Obligations.StepCostIsBounded : Prop :=
  (∀ (s t : State) (c : Nat), cpuStep s = .next (t, c) →
    (s.jammed = true → c = 0) ∧
    (s.jammed = false → irqTaken s = true → c = s.cfg.irqCycles) ∧
    (s.jammed = false → irqTaken s = false →
      nominalCycles s.cfg t.currentOpcode ≤ c ∧ c ≤ nominalCycles s.cfg t.currentOpcode + 2)) ∧
  ∀ op : Byte, 2 ≤ baseCycles op ∧ baseCycles op ≤ 8

/-- An instruction that transfers no control leaves PC at its own address plus its length (10_state R25, 30_encoding R92, 10_state R31, 40_addressing_modes R110). -/
def Obligations.StraightLineAdvancesPc : Prop :=
  ∀ (s t : State) (c : Nat), s.jammed = false → irqTaken s = false → cpuStep s = .next (t, c) →
    let i := (fetchInstr (s.setPenalty 0)).1
    t.currentOpcode = (load s s.pc).1 ∧ i.opcode = (load s s.pc).1 ∧
      (i.opcode ∉ pcWriters → t.pc = s.pc + BitVec.ofNat 16 i.length)

/-- No instruction traps or faults, and none is refused but the unstable slots under the refuse policy: exec answers a next state (60_exceptions R270, 30_encoding R94, 30_encoding R97, 47_illegal R255). -/
def Obligations.EveryInstructionCompletes : Prop :=
  (∀ (i : Instr) (s : State), i.opcode ∉ unstableOpcodes → ∃ t, exec i s = .next t) ∧
  (∀ (i : Instr) (s : State), s.cfg.unstablePolicy = .nop → ∃ t, exec i s = .next t) ∧
  (∀ s : State, s.cfg.unstablePolicy = .nop → ∃ t, step s = .next t) ∧ Config.console.unstablePolicy = .nop

/-- jammed is set by the JAM opcodes and nothing else, stops every step, and only reset clears it (R30, R254). -/
def Obligations.JamIsTerminal : Prop :=
  (∀ s : State, EachCompletes jamRows s fun _ t => t = { s with jammed := true }) ∧
  (∀ s : State, s.jammed = true → cpuStep s = .next (s, 0) ∧ step s = .next s) ∧
  (∀ (i : Instr) (s t : State), exec i s = .next t → t.jammed = (s.jammed || decide (i.opcode ∈ jamOpcodes))) ∧
  (∀ (s t : State) (c : Nat), s.jammed = false → cpuStep s = .next (t, c) → t.jammed = true → c = s.cfg.jamCycles) ∧
  Config.console.jamCycles = 2 ∧
  (∀ (s : State) (b : Bool), (interruptEntry b s).jammed = s.jammed) ∧
  (∀ s : State, (applyReset s).jammed = false) ∧
  (∀ (s : State) (v : Byte) (k o : Nat) (bytes : List Byte) (level : Bool),
    (setFlags s v).jammed = s.jammed ∧ (loadRom s k bytes).jammed = s.jammed ∧ (setIrq s level).jammed = s.jammed ∧
    (registerObserver s k o).jammed = s.jammed ∧ (removeObserver s k o).jammed = s.jammed)

/-! ### Loads, stores and transfers -/

/-- LDA, LDX, LDY and LAX put the operand into their register and set N and Z by it, in every mode (R140, R141, R142, R245). -/
def Obligations.LoadInstructions : Prop :=
  ∀ (s : State) (n : Byte) (nn : Word),
    LoadsInto (ldaRows n nn) s (fun t v => RegsAre t v s.x s.y s.sp s.pc) ∧
    LoadsInto (ldxRows n nn) s (fun t v => RegsAre t s.a v s.y s.sp s.pc) ∧
    LoadsInto (ldyRows n nn) s (fun t v => RegsAre t s.a s.x v s.sp s.pc) ∧
    LoadsInto (laxRows n nn) s (fun t v => RegsAre t v v s.y s.sp s.pc)

/-- STA, STX, STY and SAX store their register once at the effective address of the mode, and change nothing else but by the mode's own reads (R143, R144, R145, R244). -/
def Obligations.StoreInstructions : Prop :=
  ∀ (s : State) (n : Byte) (nn : Word),
    StoresValue (staRows n nn) s s.a ∧ StoresValue (stxRows n nn) s s.x ∧ StoresValue (styRows n nn) s s.y ∧
    StoresValue (saxRows n nn) s (s.a &&& s.x)

/-- The six transfers copy one register; all but TXS set N and Z by it (R146, R147, R148, R149, R150, R151). -/
def Obligations.TransferInstructions : Prop :=
  ∀ s : State,
    Gives .tax [0xAA] 2 s { s with x := s.a, p := flagsNZ s.p s.a } ∧
    Gives .tay [0xA8] 2 s { s with y := s.a, p := flagsNZ s.p s.a } ∧
    Gives .txa [0x8A] 2 s { s with a := s.x, p := flagsNZ s.p s.x } ∧
    Gives .tya [0x98] 2 s { s with a := s.y, p := flagsNZ s.p s.y } ∧
    Gives .tsx [0xBA] 2 s { s with x := s.sp, p := flagsNZ s.p s.sp } ∧
    Gives .txs [0x9A] 2 s { s with sp := s.x }

/-! ### Stack -/

/-- Push stores at 0x0100 + S then decrements S; pull increments S then reads there; a pull undoes a push (42_stack R160, 42_stack R161, 10_state R24). -/
def Obligations.PushAndPull : Prop :=
  (∀ sp : Byte, (stackAddr sp).toNat = 256 + sp.toNat) ∧
  (∀ (s : State) (v : Byte), StoresByte s s (push s v) (stackAddr s.sp) v ∧ HiddenKept s (push s v) ∧
    (push s v).p = s.p ∧ (push s v).penalty = s.penalty ∧ RegsAre (push s v) s.a s.x s.y (s.sp - 1) s.pc) ∧
  (∀ s : State, let u : State := { s with sp := s.sp + 1 }
    pull s = load u (stackAddr (s.sp + 1))) ∧
  (∀ (s : State) (v : Byte), stackReady1 s = true → pull (push s v) = (v, { push s v with sp := s.sp }))

/-- PHA pushes A; PHP pushes P with bits 4 and 5 set; neither changes a flag (R162, R163). -/
def Obligations.PushInstructions : Prop :=
  ∀ s : State,
    EachCompletes [⟨.pha, [0x48], 3, ()⟩] s (fun _ t => StoresByte s s t (stackAddr s.sp) s.a ∧ HiddenKept s t ∧ t.p = s.p ∧
      t.penalty = s.penalty ∧ RegsAre t s.a s.x s.y (s.sp - 1) s.pc) ∧
    EachCompletes [⟨.php, [0x08], 3, ()⟩] s (fun _ t => StoresByte s s t (stackAddr s.sp) (s.p.toByte ||| 0x30) ∧
      HiddenKept s t ∧ t.p = s.p ∧ t.penalty = s.penalty ∧ RegsAre t s.a s.x s.y (s.sp - 1) s.pc)

/-- PLA pulls A and sets N and Z by it; PLP pulls every flag, with B stored as 0 (R164, R165). -/
def Obligations.PullInstructions : Prop :=
  ∀ s : State, let v := load s (stackAddr (s.sp + 1))
    EachCompletes [⟨.pla, [0x68], 4, ()⟩] s (fun _ t => RegsAre t v.1 s.x s.y (s.sp + 1) s.pc ∧ t.p = flagsNZ s.p v.1 ∧
      HiddenKept s t ∧ t.penalty = s.penalty ∧ OnlyRead s v.2 t) ∧
    EachCompletes [⟨.plp, [0x28], 4, ()⟩] s (fun _ t => RegsAre t s.a s.x s.y (s.sp + 1) s.pc ∧ t.p = pulledFlags v.1 ∧
      HiddenKept s t ∧ t.penalty = s.penalty ∧ OnlyRead s v.2 t)

/-! ### ALU -/

/-- AddCore: the accumulator, N, V, Z and C of an addition, binary and decimal (R171). -/
def Obligations.AddCoreFollowsRule : Prop :=
  (∀ (a m : Byte) (p : Status),
    let bin := a.toNat + m.toNat + p.c.toNat
    let r8 : Byte := BitVec.ofNat 8 (bin % 256)
    let t := if a.toNat % 16 + m.toNat % 16 + p.c.toNat > 9 then bin + 6 else bin
    addCore a m p = (if p.d then BitVec.ofNat 8 ((if t > 0x99 then t + 0x60 else t) % 256) else r8,
      { p with
        n := r8.getLsbD 7
        z := decide (r8.toNat = 0)
        v := !(a.getLsbD 7 ^^ m.getLsbD 7) && (a.getLsbD 7 ^^ r8.getLsbD 7)
        c := if p.d then decide (t > 0x99) else decide (bin > 255) })) ∧
  (∀ (s : State) (m : Byte), s.add m =
    { s with a := (addCore s.a m s.p).1, p := (addCore s.a m s.p).2, penalty := s.penalty + decimalCost s.p })

/-- SubCore: the accumulator, N, V, Z and C of a subtraction, binary and decimal (R172). -/
def Obligations.SubCoreFollowsRule : Prop :=
  (∀ (a m : Byte) (p : Status),
    let bin : Int := a.toNat - m.toNat - (1 - p.c.toNat)
    let r8 : Byte := BitVec.ofNat 8 (bin % 256).toNat
    let t : Int := if (a.toNat % 16 : Int) - (m.toNat % 16 : Nat) - (1 - p.c.toNat) < 0 then bin - 6 else bin
    subCore a m p = (if p.d then BitVec.ofNat 8 ((if t < 0 then t - 0x60 else t) % 256).toNat else r8,
      { p with
        n := r8.getLsbD 7
        z := decide (r8.toNat = 0)
        v := (a.getLsbD 7 ^^ m.getLsbD 7) && (a.getLsbD 7 ^^ r8.getLsbD 7)
        c := if p.d then decide (0 ≤ t) else decide (0 ≤ bin) })) ∧
  (∀ (s : State) (m : Byte), s.sub m =
    { s with a := (subCore s.a m s.p).1, p := (subCore s.a m s.p).2, penalty := s.penalty + decimalCost s.p })

/-- On packed-BCD operands, decimal addition and subtraction give the packed-BCD result modulo 100, with C as carry or no borrow (43_alu R170, 43_alu R171, 43_alu R172). -/
def Obligations.DecimalIsPackedBcd : Prop :=
  ∀ (a m : Byte) (p : Status), isBcd a = true → isBcd m = true → p.d = true →
    (isBcd (addCore a m p).1 = true ∧ bcdValue (addCore a m p).1 = (bcdValue a + bcdValue m + p.c.toNat) % 100 ∧
      (addCore a m p).2.c = decide (100 ≤ bcdValue a + bcdValue m + p.c.toNat)) ∧
    (isBcd (subCore a m p).1 = true ∧
      bcdValue (subCore a m p).1 = (bcdValue a + 100 - bcdValue m - (1 - p.c.toNat)) % 100 ∧
      (subCore a m p).2.c = decide (bcdValue m + (1 - p.c.toNat) ≤ bcdValue a))

/-- V after an addition or subtraction says that the signed binary result does not fit in a byte, whatever D is (43_alu R170, 43_alu R171, 43_alu R172). -/
def Obligations.OverflowIsSignedOverflow : Prop :=
  ∀ (a m : Byte) (p : Status),
    ((addCore a m p).2.v = true ↔ a.toInt + m.toInt + p.c.toNat < -128 ∨ 127 < a.toInt + m.toInt + p.c.toNat) ∧
    ((subCore a m p).2.v = true ↔ a.toInt - m.toInt - (1 - p.c.toNat) < -128 ∨ 127 < a.toInt - m.toInt - (1 - p.c.toNat))

/-- ADC, SBC and USBC add or subtract the operand in every mode, at one more cycle when D is 1 (R174, R175, R252). -/
def Obligations.AddSubtractInstructions : Prop :=
  ∀ (s : State) (n : Byte) (nn : Word),
    AddsIntoA (adcRows n nn) s addCore ∧ AddsIntoA (sbcRows n nn) s subCore ∧ AddsIntoA (usbcRows n) s subCore

/-- AND, ORA and EOR combine A with the operand and set N and Z by the result, in every mode (R176, R177, R178). -/
def Obligations.LogicInstructions : Prop :=
  ∀ (s : State) (n : Byte) (nn : Word),
    CombinesIntoA (andRows n nn) s (fun a m => a &&& m) ∧ CombinesIntoA (oraRows n nn) s (fun a m => a ||| m) ∧
    CombinesIntoA (eorRows n nn) s (fun a m => a ^^^ m)

/-- CMP, CPX and CPY set C, N and Z by register minus operand; BIT sets Z, N and V; no register changes (R173, R179, R180, R181, R182). -/
def Obligations.CompareAndBitInstructions : Prop :=
  (∀ (s : State) (n : Byte) (nn : Word),
    SetsFlags (cmpRows n nn) s (compareFlags s.p s.a) ∧ SetsFlags (cpxRows n nn) s (compareFlags s.p s.x) ∧
    SetsFlags (cpyRows n nn) s (compareFlags s.p s.y) ∧ SetsFlags (bitRows n nn) s (bitFlags s.p s.a)) ∧
  (∀ (p : Status) (r m : Byte), p.compare r m = compareFlags p r m ∧ ((p.compare r m).z = true ↔ r = m))

/-- INX, INY, DEX and DEY step their register modulo 256 and set N and Z by it (R185, R186, R187, R188). -/
def Obligations.IndexIncrementDecrement : Prop :=
  ∀ s : State,
    (let v : Byte := BitVec.ofNat 8 ((s.x.toNat + 1) % 256)
     Gives .inx [0xE8] 2 s { s with x := v, p := flagsNZ s.p v }) ∧
    (let v : Byte := BitVec.ofNat 8 ((s.y.toNat + 1) % 256)
     Gives .iny [0xC8] 2 s { s with y := v, p := flagsNZ s.p v }) ∧
    (let v : Byte := BitVec.ofNat 8 ((s.x.toNat + 255) % 256)
     Gives .dex [0xCA] 2 s { s with x := v, p := flagsNZ s.p v }) ∧
    (let v : Byte := BitVec.ofNat 8 ((s.y.toNat + 255) % 256)
     Gives .dey [0x88] 2 s { s with y := v, p := flagsNZ s.p v })

/-! ### Read-modify-write -/

/-- The four shift cores by value: result, carry out, N and Z, with V and D untouched (R200). -/
def Obligations.ShiftCoresFollowRule : Prop :=
  ∀ (m : Byte) (p : Status),
    aslCore m p = aslRule m p ∧ lsrCore m p = lsrRule m p ∧ rolCore m p = rolRule m p ∧ rorCore m p = rorRule m p ∧
    (lsrCore m p).2.n = false ∧
    ∀ q ∈ [(aslCore m p).2, (lsrCore m p).2, (rolCore m p).2, (rorCore m p).2],
      q.v = p.v ∧ q.b = p.b ∧ q.d = p.d ∧ q.i = p.i

/-- INC, DEC, ASL, LSR, ROL and ROR replace their byte, in memory or in A, and set the flags of their core (R183, R184, R201, R202, R203, R204). -/
def Obligations.ModifyInstructions : Prop :=
  ∀ (s : State) (n : Byte) (nn : Word),
    ModifiesMemory (incRows n nn) s incRule ∧ ModifiesMemory (decRows n nn) s decRule ∧
    ModifiesMemory (aslRows n nn) s aslRule ∧ ModifiesMemory (lsrRows n nn) s lsrRule ∧
    ModifiesMemory (rolRows n nn) s rolRule ∧ ModifiesMemory (rorRows n nn) s rorRule ∧
    (let r := aslRule s.a s.p
     Gives .aslAcc [0x0A] 2 s { s with a := r.1, p := r.2 }) ∧
    (let r := lsrRule s.a s.p
     Gives .lsrAcc [0x4A] 2 s { s with a := r.1, p := r.2 }) ∧
    (let r := rolRule s.a s.p
     Gives .rolAcc [0x2A] 2 s { s with a := r.1, p := r.2 }) ∧
    (let r := rorRule s.a s.p
     Gives .rorAcc [0x6A] 2 s { s with a := r.1, p := r.2 })

/-- SLO, RLA, SRE, RRA, DCP and ISC: the first operation on memory, the second on A with its result (R240, R241, R242, R243, R246, R247). -/
def Obligations.CompositeInstructions : Prop :=
  ∀ (s : State) (n : Byte) (nn : Word),
    Composes (sloRows n nn) s aslRule (fun a r p => (a ||| r, flagsNZ p (a ||| r))) 0 ∧
    Composes (rlaRows n nn) s rolRule (fun a r p => (a &&& r, flagsNZ p (a &&& r))) 0 ∧
    Composes (sreRows n nn) s lsrRule (fun a r p => (a ^^^ r, flagsNZ p (a ^^^ r))) 0 ∧
    Composes (rraRows n nn) s rorRule addCore (decimalCost s.p) ∧
    Composes (dcpRows n nn) s (fun m p => (BitVec.ofNat 8 ((m.toNat + 255) % 256), p)) (fun a r p => (a, compareFlags p a r)) 0 ∧
    Composes (iscRows n nn) s (fun m p => (BitVec.ofNat 8 ((m.toNat + 1) % 256), p)) subCore (decimalCost s.p)

/-- ANC, ALR, ARR and SBX: their register, N, Z, C and V, with no decimal mode (R248, R249, R250, R251). -/
def Obligations.ImmediateComposites : Prop :=
  ∀ (s : State) (n : Byte),
    (let r := s.a &&& n
     Gives (.anc0B n) [0x0B, n] 2 s { s with a := r, p := { flagsNZ s.p r with c := r.getLsbD 7 } } ∧
     Gives (.anc2B n) [0x2B, n] 2 s { s with a := r, p := { flagsNZ s.p r with c := r.getLsbD 7 } }) ∧
    (let r := lsrRule (s.a &&& n) s.p
     Gives (.alr n) [0x4B, n] 2 s { s with a := r.1, p := r.2 }) ∧
    (let r : Byte := BitVec.ofNat 8 ((s.a &&& n).toNat / 2 + 128 * s.p.c.toNat)
     Gives (.arr n) [0x6B, n] 2 s { s with a := r, p := { flagsNZ s.p r with c := r.getLsbD 6, v := r.getLsbD 6 ^^ r.getLsbD 5 } }) ∧
    (let t := s.a &&& s.x
     Gives (.sbx n) [0xCB, n] 2 s { s with x := BitVec.ofInt 8 (t.toNat - n.toNat), p := compareFlags s.p t n })

/-! ### Control transfer -/

/-- JMP absolute goes to its operand; JMP indirect to the word at its pointer, with the page-wrap of the high byte (R210, R211, R124). -/
def Obligations.JumpInstructions : Prop :=
  ∀ (s : State) (nn ptr : Word),
    Gives (.jmpAbs nn) [0x4C, loByte nn, hiByte nn] 3 s { s with pc := nn } ∧
    (let lo := load s ptr
     let hi := load lo.2 (if ptr.toNat % 256 = 255 then BitVec.ofNat 16 (ptr.toNat - 255) else ptr + 1)
     EachCompletes [⟨.jmpInd ptr, [0x6C, loByte ptr, hiByte ptr], 5, ()⟩] s fun _ t =>
       RegsAre t s.a s.x s.y s.sp (BitVec.ofNat 16 (256 * hi.1.toNat + lo.1.toNat)) ∧ t.p = s.p ∧ HiddenKept s t ∧
       t.penalty = s.penalty ∧ OnlyRead s hi.2 t)

/-- JSR pushes the address of its last byte, high byte first, and jumps; RTS pulls it and goes one past it (R212, R213). -/
def Obligations.SubroutineInstructions : Prop :=
  (∀ (s : State) (nn : Word), let ret := s.pc - 1
    EachCompletes [⟨.jsr nn, [0x20, loByte nn, hiByte nn], 6, ()⟩] s fun _ t =>
      t = { push (push s (hiByte ret)) (loByte ret) with pc := nn } ∧ RegsAre t s.a s.x s.y (s.sp - 2) nn ∧ t.p = s.p ∧
      HiddenKept s t ∧ t.penalty = s.penalty ∧
      (stackReady2 s = true → peek t (stackAddr s.sp) = some (hiByte ret) ∧ peek t (stackAddr (s.sp - 1)) = some (loByte ret)) ∧
      (∀ addr, OutsideCell s addr (stackAddr s.sp) → OutsideCell s addr (stackAddr (s.sp - 1)) → peek t addr = peek s addr)) ∧
  (∀ s : State, let lo := pull s
    let hi := pull lo.2
    EachCompletes [⟨.rts, [0x60], 6, ()⟩] s fun _ t =>
      RegsAre t s.a s.x s.y (s.sp + 2) (BitVec.ofNat 16 ((256 * hi.1.toNat + lo.1.toNat + 1) % 65536)) ∧ t.p = s.p ∧
      HiddenKept s t ∧ t.penalty = s.penalty ∧ OnlyRead s hi.2 t)

/-- RTS after JSR returns to the instruction after the JSR with S, A, X, Y and P as they were (45_control R212, 45_control R213). -/
def Obligations.JsrThenRts : Prop :=
  ∀ (s : State) (nn : Word), stackReady2 s = true →
    Completes (.jsr nn) s fun u => u.pc = nn ∧ Completes .rts u fun t => RegsAre t s.a s.x s.y s.sp s.pc ∧ t.p = s.p

/-- The eight branches: taken exactly on their condition, to PC plus the signed displacement, at 1 or 2 extra cycles (R125, R128, R214, R215, R216, R217, R218, R219, R220, R221, R222). -/
def Obligations.BranchInstructions : Prop :=
  ∀ (s : State) (d : Byte), let target : Word := BitVec.ofInt 16 (s.pc.toNat + d.toInt)
    EachCompletes (branchRows d) s fun cond t =>
      t = if cond s.p then
          { s with pc := target, penalty := s.penalty + if pageOf s.pc = pageOf target then 1 else 2 }
        else s

/-! ### BRK, RTI and interrupts -/

/-- The interrupt entry and BRK: what is pushed, where, what P becomes, and where PC goes (R223, R271). -/
def Obligations.BrkAndInterruptEntry : Prop :=
  (∀ (s : State) (b : Bool), Entered b s.pc s (interruptEntry b s)) ∧
  (∀ s : State, EachCompletes [⟨.brk, [0x00, 0x00], 7, ()⟩] s fun _ t => Entered true (s.pc + 1) s t)

/-- RTI pulls P, then PCL, then PCH, with no address adjustment (R224). -/
def Obligations.RtiInstruction : Prop :=
  ∀ s : State, let v := pull s
    let lo := pull v.2
    let hi := pull lo.2
    EachCompletes [⟨.rti, [0x40], 6, ()⟩] s fun _ t =>
      RegsAre t s.a s.x s.y (s.sp + 3) (BitVec.ofNat 16 (256 * hi.1.toNat + lo.1.toNat)) ∧ t.p = pulledFlags v.1 ∧
      HiddenKept s t ∧ t.penalty = s.penalty ∧ OnlyRead s hi.2 t

/-- RTI after BRK restores PC to the BRK address + 2, S, and every flag, with B cleared (60_exceptions R276, 60_exceptions R275, 45_control R223, 45_control R224). -/
def Obligations.BrkThenRti : Prop :=
  ∀ s : State, stackReady3 s = true →
    Completes .brk s fun u => u.p.i = true ∧ Completes .rti u fun t =>
      RegsAre t s.a s.x s.y s.sp (s.pc + 1) ∧ t.p = { s.p with b := false }

/-- An IRQ is taken at the start of a step exactly when HAS_IRQ, the request level and I = 0, and only by a CPU that is not jammed (60_exceptions R272, 60_exceptions R274, 60_exceptions R275, 70_reset_and_hazards R299). -/
def Obligations.IrqEntry : Prop :=
  (∀ s : State, irqTaken s = true ↔ s.cfg.hasIrq = true ∧ s.irq = true ∧ s.p.i = false) ∧
  (∀ s : State, s.jammed = false → irqTaken s = true → ∃ t, cpuStep s = .next (t, s.cfg.irqCycles) ∧
    Entered false s.pc s t ∧ irqTaken t = false) ∧
  (∀ s : State, s.jammed = true → irqTaken s = true → cpuStep s = .next (s, 0)) ∧
  Config.console.hasIrq = false ∧ Config.console.irqCycles = 7

/-! ### Flag instructions, NOPs and unstable slots -/

/-- The seven flag instructions write their one flag and nothing else (R230, R231, R232, R233, R234, R235, R236). -/
def Obligations.FlagInstructions : Prop :=
  ∀ s : State,
    Gives .clc [0x18] 2 s { s with p := { s.p with c := false } } ∧
    Gives .sec [0x38] 2 s { s with p := { s.p with c := true } } ∧
    Gives .cli [0x58] 2 s { s with p := { s.p with i := false } } ∧
    Gives .sei [0x78] 2 s { s with p := { s.p with i := true } } ∧
    Gives .cld [0xD8] 2 s { s with p := { s.p with d := false } } ∧
    Gives .sed [0xF8] 2 s { s with p := { s.p with d := true } } ∧
    Gives .clv [0xB8] 2 s { s with p := { s.p with v := false } }

/-- The 28 NOPs change nothing but PC, and one penalty cycle for a page cross of the absolute,X forms (R237, R253). -/
def Obligations.NopInstructions : Prop :=
  ∀ (s : State) (n : Byte) (nn : Word),
    EachCompletes impliedNopRows s (fun _ t => t = s) ∧
    EachCompletes immediateNopRows s (fun _ t => t = { s with pc := s.pc + 1 }) ∧
    EachCompletes (nopRows n nn) s (fun m t => t = { s with penalty := s.penalty + crossCost (.memory m) s })

/-- The eight unstable slots: no operation under the nop policy, no meaning under the refuse policy (R255). -/
def Obligations.UnstableSlots : Prop :=
  ∀ (s : State) (n : Byte) (nn : Word),
    (s.cfg.unstablePolicy = .nop →
      EachCompletes unstableImmediateRows s (fun _ t => t = { s with pc := s.pc + 1 }) ∧
      EachCompletes (unstableRows n nn) s (fun m t => RegsAre t s.a s.x s.y s.sp s.pc ∧ t.p = s.p ∧ t.penalty = s.penalty ∧
        HiddenKept s t ∧ OnlyRead s (resolve m s).state t)) ∧
    (s.cfg.unstablePolicy = .refuse →
      (∀ r ∈ unstableImmediateRows, exec r.instr s = .refused .unstableSlot) ∧
      (∀ r ∈ unstableRows n nn, exec r.instr s = .refused .unstableSlot)) ∧
    Config.console.unstablePolicy = .nop

/-! ### Addressing modes -/

/-- Zero-page modes wrap in page 0; absolute modes index modulo 65536 and cross when the high bytes differ (40_addressing_modes R116, 40_addressing_modes R117, 40_addressing_modes R118, 40_addressing_modes R119, 40_addressing_modes R120, 40_addressing_modes R121, 40_addressing_modes R126). -/
def Obligations.DirectModes : Prop :=
  ∀ (s : State) (n : Byte) (nn : Word),
    (∀ m ∈ [AddrMode.zeroPage n, .zeroPageX n, .zeroPageY n, .absolute nn, .absoluteX nn, .absoluteY nn],
      (resolve m s).state = s) ∧
    (∀ m ∈ [AddrMode.zeroPage n, .zeroPageX n, .zeroPageY n, .absolute nn], (resolve m s).crossed = false) ∧
    (resolve (.zeroPage n) s).ea.toNat = n.toNat ∧
    (resolve (.zeroPageX n) s).ea.toNat = (n.toNat + s.x.toNat) % 256 ∧
    (resolve (.zeroPageY n) s).ea.toNat = (n.toNat + s.y.toNat) % 256 ∧
    (resolve (.absolute nn) s).ea = nn ∧
    (resolve (.absoluteX nn) s).ea.toNat = (nn.toNat + s.x.toNat) % 65536 ∧
    (resolve (.absoluteY nn) s).ea.toNat = (nn.toNat + s.y.toNat) % 65536 ∧
    ((resolve (.absoluteX nn) s).crossed = true ↔ pageOf nn ≠ pageOf (resolve (.absoluteX nn) s).ea) ∧
    ((resolve (.absoluteY nn) s).crossed = true ↔ pageOf nn ≠ pageOf (resolve (.absoluteY nn) s).ea)

/-- The zero-page pointer modes read two bytes that wrap in page 0, low byte first, and only (zero-page),Y crosses (40_addressing_modes R122, 40_addressing_modes R123, 20_memory R67). -/
def Obligations.PointerModes : Prop :=
  ∀ (s : State) (n : Byte),
    (let lo := load s (BitVec.ofNat 16 ((n.toNat + s.x.toNat) % 256))
     let hi := load lo.2 (BitVec.ofNat 16 ((n.toNat + s.x.toNat + 1) % 256))
     resolve (.indexedIndirect n) s = ⟨BitVec.ofNat 16 (256 * hi.1.toNat + lo.1.toNat), false, hi.2⟩) ∧
    (let lo := load s (BitVec.ofNat 16 n.toNat)
     let hi := load lo.2 (BitVec.ofNat 16 ((n.toNat + 1) % 256))
     let base : Word := BitVec.ofNat 16 (256 * hi.1.toNat + lo.1.toNat)
     let ea : Word := BitVec.ofNat 16 ((256 * hi.1.toNat + lo.1.toNat + s.y.toNat) % 65536)
     resolve (.indirectIndexed n) s = ⟨ea, decide (pageOf base ≠ pageOf ea), hi.2⟩)

/-- A memory operand is read once after its mode; a modify reads, then stores, once; an immediate is in the instruction (model's choice, log entry 6) (40_addressing_modes R126, 40_addressing_modes R130, 20_memory R72). -/
def Obligations.OperandPrimitives : Prop :=
  (∀ (s : State) (n : Byte), readOperand (.immediate n) s = (n, s)) ∧
  (∀ (s : State) (m : AddrMode), let r := resolve m s
    readOperand (.memory m) s = ((load r.state r.ea).1,
      { (load r.state r.ea).2 with penalty := s.penalty + crossCost (.memory m) s })) ∧
  (∀ (s : State) (m : AddrMode) (f : Byte → Status → Byte × Status), let r := resolve m s
    let v := load r.state r.ea
    modifyOperand (.memory m) f s = ((f v.1 s.p).1, { store v.2 r.ea (f v.1 s.p).1 with p := (f v.1 s.p).2 })) ∧
  (∀ (s : State) (f : Byte → Status → Byte × Status),
    modifyOperand .accumulator f s = ((f s.a s.p).1, { s with a := (f s.a s.p).1, p := (f s.a s.p).2 }))

/-! ### Memory and the Bus -/

/-- The console Bus sends each of the 65536 addresses to one target, by lines 12, 7 and 9 of its low 13 bits (20_memory R52, 20_memory R53, 20_memory R60). -/
def Obligations.ConsoleDecode : Prop :=
  (∀ (s : State) (rom ram : Memory) (addr : Word), OnConsole s rom ram → let a := addr.toNat % 8192
    route s addr =
      if 4096 ≤ a then .cell 0 rom (a % 4096)
      else if a / 128 % 2 = 0 then .device 0 (a % 16) (a % 64)
      else if a / 512 % 2 = 0 then .cell 1 ram (a % 128)
      else .device 1 (a % 128) (a % 128)) ∧
  OnConsole State.reset blankRom blankRam ∧ blankRom.cap = 4096 ∧ blankRom.readOnly = true ∧ blankRam.cap = 128 ∧
  blankRam.readOnly = false

/-- On the console, a push with S of at least 0x80 writes the RAM cell of a zero-page address; below it goes to the video chip (20_memory R60, 42_stack R160, 70_reset_and_hazards R297). -/
def Obligations.ConsoleStackIsZeroPage : Prop :=
  ∀ (s : State) (rom ram : Memory) (v : Byte), OnConsole s rom ram → ram.cap = 128 → ram.readOnly = false → ram.wf = true →
    (128 ≤ s.sp.toNat → peek (push s v) (BitVec.ofNat 16 (128 + s.sp.toNat % 128)) = some v) ∧
    (s.sp.toNat < 128 → (push s v).memories = s.memories ∧
      (push s v).peripherals = recordAccess s.peripherals 0 (.write (s.sp.toNat % 64) v))

/-- A Memory indexes modulo its capacity; a store is read back at every index of that cell and leaves the other cells alone (20_memory R63, 20_memory R75). -/
def Obligations.MemoryPrimitive : Prop :=
  (∀ (m : Memory) (i j : Nat) (v : Byte), m.wf = true →
    m.load i = m.load (i % m.cap) ∧ (m.put i v).wf = true ∧ (m.put i v).name = m.name ∧ (m.put i v).cap = m.cap ∧
    (m.put i v).readOnly = m.readOnly ∧ (m.put i v).observers = m.observers ∧
    (m.put i v).load j = if j % m.cap = i % m.cap then v else m.load j) ∧
  (∀ m m' : Memory, m.wf = true → m'.wf = true → m.name = m'.name → m.cap = m'.cap → m.readOnly = m'.readOnly →
    m.observers = m'.observers → (∀ i, i < m.cap → m.load i = m'.load i) → m = m')

/-- A store to writable memory is read back at every address of the same cell, by loads and by instruction fetch, and nowhere else (20_memory R58, 20_memory R75, 20_memory R77). -/
def Obligations.StoreIsSeenAtEveryAlias : Prop :=
  ∀ (s : State) (a b : Word) (v : Byte), writableAt s a = true →
    (cellOf s b = cellOf s a → load (store s a v) b = (v, store s a v)) ∧
    (cellOf s s.pc = cellOf s a → (fetchByte (store s a v)).1 = v) ∧
    (OutsideCell s b a → peek (store s a v) b = peek s b)

/-- A store to ROM or to the fallback range is discarded, and the fallback range reads FALLBACK_BYTE (model's choices: log entries 21 and 22) (20_memory R55, 20_memory R57). -/
def Obligations.DiscardedStores : Prop :=
  (∀ (s : State) (addr : Word) (v : Byte), discardsAt s addr = true → store s addr v = s) ∧
  (∀ (s : State) (addr : Word), route s addr = .unmapped → load s addr = (s.cfg.fallbackByte, s)) ∧
  Config.console.fallbackByte = 0xFF ∧
  (∀ (s : State) (rom ram : Memory) (addr : Word), OnConsole s rom ram → route s addr ≠ .unmapped)

/-- loadWord reads the low byte, then the high byte at the next address; the page-wrapped word read stays in its page (R56, R64). -/
def Obligations.WordReads : Prop :=
  (∀ (s : State) (addr : Word), let lo := load s addr
    let hi := load lo.2 (BitVec.ofNat 16 ((addr.toNat + 1) % 65536))
    (loadWord s addr).1.toNat = lo.1.toNat + 256 * hi.1.toNat ∧ (loadWord s addr).2 = hi.2) ∧
  (∀ (m : Memory) (a : Word), (m.loadWordWrapped a).toNat =
    (m.load a.toNat).toNat + 256 * (m.load (if a.toNat % 256 = 255 then a.toNat - 255 else a.toNat + 1)).toNat)

/-- A peripheral read answers the next free value and is recorded; a peripheral write is recorded; neither changes memory or a register (20_memory R54, 20_memory R57, 20_memory R62, 20_memory R70). -/
def Obligations.PeripheralBoundary : Prop :=
  (∀ (s : State) (addr : Word) (k r w : Nat) (v : Byte) (p : Peripheral), route s addr = .device k r w →
    s.peripherals[k]? = some p →
    (∃ ps, load s addr = (Config.periphRead s.draws, { s with draws := s.draws + 1, peripherals := ps }) ∧
      ps.length = s.peripherals.length ∧ ps[k]? = some ⟨p.ticks, .read r :: p.accesses⟩ ∧
      ∀ j, j ≠ k → ps[j]? = s.peripherals[j]?) ∧
    (∃ ps, store s addr v = { s with peripherals := ps } ∧ ps.length = s.peripherals.length ∧
      ps[k]? = some ⟨p.ticks, .write w v :: p.accesses⟩ ∧ ∀ j, j ≠ k → ps[j]? = s.peripherals[j]?)) ∧
  (∀ (s : State) (addr : Word), (∀ k r w, route s addr ≠ .device k r w) → (load s addr).2 = s)

/-- A store to writable memory tells each observer in registration order, a discarded one none (log, numbers, repeats: model's choice, log entry 10) (20_memory R57, 20_memory R65, 60_exceptions R284). -/
def Obligations.ObserversAreToldInOrder : Prop :=
  (∀ (s : State) (addr : Word) (k o1 o2 off : Nat) (m : Memory) (v : Byte), route s addr = .cell k m off → m.readOnly = false →
    (store (registerObserver (registerObserver s k o1) k o2) addr v).notifications =
      ⟨k, o2, off % m.cap, v⟩ :: ⟨k, o1, off % m.cap, v⟩ :: (store s addr v).notifications) ∧
  (∀ (s : State) (addr : Word) (k o : Nat), peek (registerObserver s k o) addr = peek s addr ∧
    peek (removeObserver s k o) addr = peek s addr ∧
    registerObserver s k o = { s with memories := (registerObserver s k o).memories } ∧
    removeObserver s k o = { s with memories := (removeObserver s k o).memories }) ∧
  (∀ (s : State) (addr : Word) (v : Byte), (∀ k m off, route s addr = .cell k m off → m.readOnly = true ∨ m.observers = []) →
    (store s addr v).notifications = s.notifications)

/-! ### The status register -/

/-- P as a byte has each flag at its position and bit 5 set; setFlags takes every flag from its position and changes nothing else (R37, R282). -/
def Obligations.StatusAsByte : Prop :=
  (∀ p : Status, p.toByte.toNat = 128 * p.n.toNat + 64 * p.v.toNat + 32 + 16 * p.b.toNat + 8 * p.d.toNat + 4 * p.i.toNat +
    2 * p.z.toNat + p.c.toNat) ∧
  (∀ (s : State) (v : Byte), setFlags s v = { s with p := ⟨v.getLsbD 7, v.getLsbD 6, v.getLsbD 4, v.getLsbD 3, v.getLsbD 2,
    v.getLsbD 1, v.getLsbD 0⟩ } ∧ (setFlags s v).p.toByte = v ||| 0x20)

/-- SetNZ sets Z exactly on zero and N to bit 7, and touches no other flag (R131). -/
def Obligations.SetNZ : Prop :=
  ∀ (p : Status) (v : Byte), ((p.setNZ v).z = true ↔ v.toNat = 0) ∧ ((p.setNZ v).n = true ↔ 128 ≤ v.toNat) ∧
    (p.setNZ v).n = v.getLsbD 7 ∧ (p.setNZ v).v = p.v ∧ (p.setNZ v).b = p.b ∧ (p.setNZ v).d = p.d ∧ (p.setNZ v).i = p.i ∧
    (p.setNZ v).c = p.c

/-- Only the instructions the spec lists change N, Z, V, C, D, I, B, S, A, X or Y (10_state R21, 10_state R22, 10_state R23, 10_state R24, 10_state R28, 10_state R29). -/
def Obligations.RegisterAndFlagWriters : Prop :=
  ∀ (i : Instr) (s t : State), exec i s = .next t →
    (t.p.n ≠ s.p.n ∨ t.p.z ≠ s.p.z → i.opcode ∈ nzWriters) ∧
    (t.p.v ≠ s.p.v → i.opcode ∈ vWriters) ∧
    (t.p.c ≠ s.p.c → i.opcode ∈ cWriters) ∧
    (t.p.d ≠ s.p.d → i.opcode ∈ dWriters) ∧
    (t.p.i ≠ s.p.i → i.opcode ∈ iWriters) ∧
    (t.p.b ≠ s.p.b → i.opcode ∈ bWriters) ∧
    (t.sp ≠ s.sp → i.opcode ∈ spWriters) ∧
    (t.a ≠ s.a → i.opcode ∈ aWriters) ∧
    (t.x ≠ s.x → i.opcode ∈ xWriters) ∧
    (t.y ≠ s.y → i.opcode ∈ yWriters)

/-! ### Reset, boot and the host operations -/

/-- reset() sets S to 0xFF, I to 1, D to 0, PC from 0xFFFC, clears jammed, and changes nothing else (R290). -/
def Obligations.ResetOperation : Prop :=
  ∀ s : State, let v := loadWord s 0xFFFC
    let t := applyReset s
    RegsAre t s.a s.x s.y 0xFF v.1 ∧ t.p = { s.p with i := true, d := false } ∧ t.jammed = false ∧
    t.currentOpcode = s.currentOpcode ∧ t.penalty = s.penalty ∧ t.total = s.total ∧ t.irq = s.irq ∧ t.cfg = s.cfg ∧
    OnlyRead s v.2 t ∧ t.peripherals.map Peripheral.ticks = s.peripherals.map Peripheral.ticks

/-- The state after reset is reset() of the console at construction, with RESET_UNSPEC zero and no ROM loaded (model choice) (70_reset_and_hazards R290, 70_reset_and_hazards R292, 10_state R33). -/
def Obligations.ResetState : Prop :=
  State.reset = applyReset (constructed ⟨0, 0, 0, 0, 0, ⟨false, false, false, false, false, false, false⟩, 0⟩ Config.console
    [blankRom, blankRam] 2) ∧
  (∀ (u : ResetUnspec) (cfg : Config) (ms : List Memory) (n : Nat), let s := constructed u cfg ms n
    s.jammed = false ∧ s.penalty = 0 ∧ s.total = 0 ∧ RegsAre s u.a u.x u.y u.sp u.pc ∧ s.p = u.p ∧
    s.currentOpcode = u.currentOpcode ∧ s.memories = ms) ∧
  State.reset.sp = 0xFF ∧ State.reset.p.i = true ∧ State.reset.p.d = false ∧ State.reset.jammed = false

/-- loadROM copies at most the capacity of bytes from offset 0, keeps the rest, and touches nothing else (R296). -/
def Obligations.LoadRomCopiesTheImage : Prop :=
  ∀ (s : State) (k : Nat) (m : Memory) (bytes : List Byte), s.memories[k]? = some m → m.wf = true →
    ∃ m', loadRom s k bytes = { s with memories := s.memories.set k m' } ∧ m'.wf = true ∧ m'.name = m.name ∧ m'.cap = m.cap ∧
      m'.readOnly = m.readOnly ∧ m'.observers = m.observers ∧ ∀ i, i < m.cap → m'.load i = (bytes[i]?).getD (m.load i)

/-! ### Invariants of every step -/

/-- Every step keeps every Memory in canonical form and the Bus map a partition of the address space among existing targets (20_memory R53, 20_memory R63, 60_exceptions R270). -/
def Obligations.StepKeepsWellFormedness : Prop :=
  ∀ s t : State, s.wf = true → step s = .next t → t.wf = true

/-- The state after reset is well-formed (20_memory R53, 20_memory R60). -/
def Obligations.ResetIsWellFormed : Prop :=
  State.reset.wf = true

/-- No step changes a ROM, a capacity, a name, an observer list, or (fields by model's choice, log entries 1, 9) parameters and IRQ level; the count never falls (20_memory R57, 20_memory R63, 20_memory R65, 00_scope R7, 60_exceptions R272, 60_exceptions R279). -/
def Obligations.StepKeepsRomAndShape : Prop :=
  ∀ s t : State, step s = .next t →
    t.cfg = s.cfg ∧ t.irq = s.irq ∧ s.total ≤ t.total ∧ t.memories.length = s.memories.length ∧
    t.peripherals.length = s.peripherals.length ∧
    ∀ (k : Nat) (m : Memory), s.memories[k]? = some m → ∃ m', t.memories[k]? = some m' ∧ m'.name = m.name ∧ m'.cap = m.cap ∧
      m'.readOnly = m.readOnly ∧ m'.observers = m.observers ∧ (m.readOnly = true → m' = m)

/-- No step reads the elapsed cycle count: two runs that differ only in it stay so (10_state R33, 60_exceptions R279, 70_reset_and_hazards R300). -/
def Obligations.NothingReadsTheCycleCount : Prop :=
  ∀ (s : State) (n : Nat),
    (∀ t, step s = .next t → step (withMoreTotal s n) = .next (withMoreTotal t n)) ∧
    (∀ r, step s = .refused r → step (withMoreTotal s n) = .refused r)

/-- No step reads the stored Break flag: two runs that differ only in it agree in everything else (10_state R28, 42_stack R163, 60_exceptions R271). -/
def Obligations.NothingReadsTheStoredBreak : Prop :=
  ∀ (s : State) (b : Bool),
    (∀ t, step s = .next t → ∃ b', step (withBreak s b) = .next (withBreak t b')) ∧
    (∀ r, step s = .refused r → step (withBreak s b) = .refused r)
end

