-- ==== Sys2Proof/Laws/Memory.lean ====
section
/-! SUPPORT. The laws of a Memory: read after write, and the canonical form, which every memory operation keeps. -/

namespace Sys2Proof.Machine

/-! ### Cells -/

theorem cellsGet_put_other (l : List Host.Cell) (i j : Nat) (v : Byte) (h : j ≠ i) :
    cellsGet (cellsPut l i v) j = cellsGet l j := by
  induction l with
  | nil =>
    by_cases hv : v = unlistedByte
    · simp [cellsPut, hv]
    · simp [cellsPut, hv, cellsGet, Ne.symm h]
  | cons c rest ih =>
    obtain ⟨k, w⟩ := c
    by_cases hlt : i < k
    · by_cases hv : v = unlistedByte
      · simp [cellsPut, hlt, hv]
      · simp [cellsPut, hlt, hv, cellsGet, Ne.symm h]
    · by_cases hik : i = k
      · subst hik
        by_cases hv : v = unlistedByte
        · simp [cellsPut, hv, cellsGet, Ne.symm h]
        · simp [cellsPut, hv, cellsGet, Ne.symm h]
      · simp [cellsPut, hlt, hik, cellsGet, ih]

/-- Below the least listed index every cell is unlisted. -/
theorem cellsGet_below (cap lo : Nat) (l : List Host.Cell) (h : cellsWf cap lo l = true) (j : Nat) (hj : j < lo) :
    cellsGet l j = unlistedByte := by
  induction l generalizing lo with
  | nil => rfl
  | cons c rest ih =>
    obtain ⟨k, w⟩ := c
    simp only [cellsWf, Bool.and_eq_true, decide_eq_true_eq] at h
    obtain ⟨⟨⟨hk, -⟩, -⟩, hr⟩ := h
    have hne : k ≠ j := by omega
    simp [cellsGet, hne, ih (k + 1) hr (by omega)]

theorem cellsGet_put_same (cap lo : Nat) (l : List Host.Cell) (i : Nat) (v : Byte) (h : cellsWf cap lo l = true) :
    cellsGet (cellsPut l i v) i = v := by
  induction l generalizing lo with
  | nil => by_cases hv : v = unlistedByte <;> simp [cellsPut, hv, cellsGet]
  | cons c rest ih =>
    obtain ⟨k, w⟩ := c
    simp only [cellsWf, Bool.and_eq_true, decide_eq_true_eq] at h
    obtain ⟨⟨⟨hk, hcap⟩, hw⟩, hr⟩ := h
    by_cases hlt : i < k
    · by_cases hv : v = unlistedByte
      · have hne : k ≠ i := by omega
        simp [cellsPut, hlt, hv, cellsGet, hne, cellsGet_below cap (k + 1) rest hr i (by omega)]
      · simp [cellsPut, hlt, hv, cellsGet]
    · by_cases hik : i = k
      · subst hik
        by_cases hv : v = unlistedByte
        · simp [cellsPut, hv, cellsGet_below cap (i + 1) rest hr i (by omega)]
        · simp [cellsPut, hv, cellsGet]
      · simp [cellsPut, hlt, hik, cellsGet, Ne.symm hik, ih (k + 1) hr]

theorem cellsWf_mono (cap lo lo' : Nat) (l : List Host.Cell) (h : cellsWf cap lo l = true) (hle : lo' ≤ lo) :
    cellsWf cap lo' l = true := by
  cases l with
  | nil => rfl
  | cons c rest =>
    obtain ⟨k, w⟩ := c
    simp only [cellsWf, Bool.and_eq_true, decide_eq_true_eq] at h ⊢
    exact ⟨⟨⟨by omega, h.1.1.2⟩, h.1.2⟩, h.2⟩

theorem cellsPut_wf (cap lo : Nat) (l : List Host.Cell) (i : Nat) (v : Byte) (h : cellsWf cap lo l = true)
    (hlo : lo ≤ i) (hcap : i < cap) : cellsWf cap lo (cellsPut l i v) = true := by
  induction l generalizing lo with
  | nil =>
    by_cases hv : v = unlistedByte
    · simp [cellsPut, hv, cellsWf]
    · simp [cellsPut, hv, cellsWf, hlo, hcap]
  | cons c rest ih =>
    obtain ⟨k, w⟩ := c
    have h0 := h
    simp only [cellsWf, Bool.and_eq_true, decide_eq_true_eq, bne_iff_ne, ne_eq] at h
    obtain ⟨⟨⟨hk, hkc⟩, hw⟩, hr⟩ := h
    by_cases hlt : i < k
    · by_cases hv : v = unlistedByte
      · simpa [cellsPut, hlt, hv] using h0
      · simp [cellsPut, hlt, hv, cellsWf, hlo, hcap, hkc, hw, hr]
    · by_cases hik : i = k
      · subst hik
        by_cases hv : v = unlistedByte
        · simpa [cellsPut, hv] using cellsWf_mono cap (i + 1) lo rest hr (by omega)
        · simp [cellsPut, hv, cellsWf, hk, hkc, hr]
      · simp [cellsPut, hlt, hik, cellsWf, hk, hkc, hw, ih (k + 1) hr (by omega)]

/-! ### Memories -/

@[simp] theorem Memory.put_name (m : Memory) (i : Nat) (v : Byte) : (m.put i v).name = m.name := rfl
@[simp] theorem Memory.put_cap (m : Memory) (i : Nat) (v : Byte) : (m.put i v).cap = m.cap := rfl
@[simp] theorem Memory.put_readOnly (m : Memory) (i : Nat) (v : Byte) : (m.put i v).readOnly = m.readOnly := rfl
@[simp] theorem Memory.put_observers (m : Memory) (i : Nat) (v : Byte) : (m.put i v).observers = m.observers := rfl
@[simp] theorem Memory.put_index (m : Memory) (i j : Nat) (v : Byte) : (m.put i v).index j = m.index j := rfl

@[simp] theorem Memory.index_index (m : Memory) (i : Nat) : m.index (m.index i) = m.index i := Nat.mod_mod i m.cap

theorem Memory.wf_cap_pos {m : Memory} (h : m.wf = true) : 0 < m.cap := by
  simp only [Memory.wf, Bool.and_eq_true, decide_eq_true_eq] at h
  exact h.1

theorem Memory.wf_cells {m : Memory} (h : m.wf = true) : cellsWf m.cap 0 m.cells = true := by
  simp only [Memory.wf, Bool.and_eq_true] at h
  exact h.2

/-- A read after a write, at an index of the same cell, gives the value written. -/
theorem Memory.load_put_same {m : Memory} (h : m.wf = true) (i j : Nat) (v : Byte) (hij : m.index j = m.index i) :
    (m.put i v).load j = v := by
  simp only [Memory.load, Memory.put, Memory.index] at *
  rw [hij]
  exact cellsGet_put_same m.cap 0 m.cells _ v (Memory.wf_cells h)

/-- A write leaves every other cell alone. -/
theorem Memory.load_put_other (m : Memory) (i j : Nat) (v : Byte) (hij : m.index j ≠ m.index i) :
    (m.put i v).load j = m.load j :=
  cellsGet_put_other m.cells _ _ v hij

/-- A write keeps the canonical form. -/
theorem Memory.put_wf {m : Memory} (h : m.wf = true) (i : Nat) (v : Byte) : (m.put i v).wf = true := by
  have hc := Memory.wf_cap_pos h
  simp only [Memory.wf, Bool.and_eq_true, decide_eq_true_eq]
  exact ⟨hc, cellsPut_wf m.cap 0 m.cells _ v (Memory.wf_cells h) (Nat.zero_le _) (Nat.mod_lt _ hc)⟩

/-- Copying an image keeps the canonical form. -/
theorem copyBytes_wf (bytes : List Byte) (m : Memory) (h : m.wf = true) (i : Nat) : (copyBytes m i bytes).wf = true := by
  induction bytes generalizing m i with
  | nil => exact h
  | cons v vs ih =>
    by_cases hi : i < m.cap
    · simpa [copyBytes, hi] using ih (m.put i v) (Memory.put_wf h i v) (i + 1)
    · simpa [copyBytes, hi] using h

/-- The Memories the spec names are in canonical form when nothing is written. -/
theorem blank_memories_wf : blankRom.wf = true ∧ blankRam.wf = true ∧ blankFlatRam.wf = true := by decide

end Sys2Proof.Machine
end

