-- ==== Sys2Proof/Laws/State.lean ====
section
/-! SUPPORT. One lemma per field per update of the state, each true by rfl. -/

namespace Sys2Proof.Machine

/-! ### setA -/

@[simp] theorem setA_a (s : State) (v : Byte) : (s.setA v).a = v := rfl
@[simp] theorem setA_x (s : State) (v : Byte) : (s.setA v).x = s.x := rfl
@[simp] theorem setA_y (s : State) (v : Byte) : (s.setA v).y = s.y := rfl
@[simp] theorem setA_sp (s : State) (v : Byte) : (s.setA v).sp = s.sp := rfl
@[simp] theorem setA_pc (s : State) (v : Byte) : (s.setA v).pc = s.pc := rfl
@[simp] theorem setA_p (s : State) (v : Byte) : (s.setA v).p = s.p := rfl
@[simp] theorem setA_jammed (s : State) (v : Byte) : (s.setA v).jammed = s.jammed := rfl
@[simp] theorem setA_currentOpcode (s : State) (v : Byte) : (s.setA v).currentOpcode = s.currentOpcode := rfl
@[simp] theorem setA_penalty (s : State) (v : Byte) : (s.setA v).penalty = s.penalty := rfl
@[simp] theorem setA_memories (s : State) (v : Byte) : (s.setA v).memories = s.memories := rfl
@[simp] theorem setA_peripherals (s : State) (v : Byte) : (s.setA v).peripherals = s.peripherals := rfl
@[simp] theorem setA_notifications (s : State) (v : Byte) : (s.setA v).notifications = s.notifications := rfl
@[simp] theorem setA_total (s : State) (v : Byte) : (s.setA v).total = s.total := rfl
@[simp] theorem setA_irq (s : State) (v : Byte) : (s.setA v).irq = s.irq := rfl
@[simp] theorem setA_draws (s : State) (v : Byte) : (s.setA v).draws = s.draws := rfl
@[simp] theorem setA_cfg (s : State) (v : Byte) : (s.setA v).cfg = s.cfg := rfl
@[simp] theorem route_setA (s : State) (v : Byte) (addr : Word) : route (s.setA v) addr = route s addr := rfl
@[simp] theorem cellOf_setA (s : State) (v : Byte) (addr : Word) : cellOf (s.setA v) addr = cellOf s addr := rfl
@[simp] theorem peek_setA (s : State) (v : Byte) (addr : Word) : peek (s.setA v) addr = peek s addr := rfl

/-! ### setX -/

@[simp] theorem setX_a (s : State) (v : Byte) : (s.setX v).a = s.a := rfl
@[simp] theorem setX_x (s : State) (v : Byte) : (s.setX v).x = v := rfl
@[simp] theorem setX_y (s : State) (v : Byte) : (s.setX v).y = s.y := rfl
@[simp] theorem setX_sp (s : State) (v : Byte) : (s.setX v).sp = s.sp := rfl
@[simp] theorem setX_pc (s : State) (v : Byte) : (s.setX v).pc = s.pc := rfl
@[simp] theorem setX_p (s : State) (v : Byte) : (s.setX v).p = s.p := rfl
@[simp] theorem setX_jammed (s : State) (v : Byte) : (s.setX v).jammed = s.jammed := rfl
@[simp] theorem setX_currentOpcode (s : State) (v : Byte) : (s.setX v).currentOpcode = s.currentOpcode := rfl
@[simp] theorem setX_penalty (s : State) (v : Byte) : (s.setX v).penalty = s.penalty := rfl
@[simp] theorem setX_memories (s : State) (v : Byte) : (s.setX v).memories = s.memories := rfl
@[simp] theorem setX_peripherals (s : State) (v : Byte) : (s.setX v).peripherals = s.peripherals := rfl
@[simp] theorem setX_notifications (s : State) (v : Byte) : (s.setX v).notifications = s.notifications := rfl
@[simp] theorem setX_total (s : State) (v : Byte) : (s.setX v).total = s.total := rfl
@[simp] theorem setX_irq (s : State) (v : Byte) : (s.setX v).irq = s.irq := rfl
@[simp] theorem setX_draws (s : State) (v : Byte) : (s.setX v).draws = s.draws := rfl
@[simp] theorem setX_cfg (s : State) (v : Byte) : (s.setX v).cfg = s.cfg := rfl
@[simp] theorem route_setX (s : State) (v : Byte) (addr : Word) : route (s.setX v) addr = route s addr := rfl
@[simp] theorem cellOf_setX (s : State) (v : Byte) (addr : Word) : cellOf (s.setX v) addr = cellOf s addr := rfl
@[simp] theorem peek_setX (s : State) (v : Byte) (addr : Word) : peek (s.setX v) addr = peek s addr := rfl

/-! ### setY -/

@[simp] theorem setY_a (s : State) (v : Byte) : (s.setY v).a = s.a := rfl
@[simp] theorem setY_x (s : State) (v : Byte) : (s.setY v).x = s.x := rfl
@[simp] theorem setY_y (s : State) (v : Byte) : (s.setY v).y = v := rfl
@[simp] theorem setY_sp (s : State) (v : Byte) : (s.setY v).sp = s.sp := rfl
@[simp] theorem setY_pc (s : State) (v : Byte) : (s.setY v).pc = s.pc := rfl
@[simp] theorem setY_p (s : State) (v : Byte) : (s.setY v).p = s.p := rfl
@[simp] theorem setY_jammed (s : State) (v : Byte) : (s.setY v).jammed = s.jammed := rfl
@[simp] theorem setY_currentOpcode (s : State) (v : Byte) : (s.setY v).currentOpcode = s.currentOpcode := rfl
@[simp] theorem setY_penalty (s : State) (v : Byte) : (s.setY v).penalty = s.penalty := rfl
@[simp] theorem setY_memories (s : State) (v : Byte) : (s.setY v).memories = s.memories := rfl
@[simp] theorem setY_peripherals (s : State) (v : Byte) : (s.setY v).peripherals = s.peripherals := rfl
@[simp] theorem setY_notifications (s : State) (v : Byte) : (s.setY v).notifications = s.notifications := rfl
@[simp] theorem setY_total (s : State) (v : Byte) : (s.setY v).total = s.total := rfl
@[simp] theorem setY_irq (s : State) (v : Byte) : (s.setY v).irq = s.irq := rfl
@[simp] theorem setY_draws (s : State) (v : Byte) : (s.setY v).draws = s.draws := rfl
@[simp] theorem setY_cfg (s : State) (v : Byte) : (s.setY v).cfg = s.cfg := rfl
@[simp] theorem route_setY (s : State) (v : Byte) (addr : Word) : route (s.setY v) addr = route s addr := rfl
@[simp] theorem cellOf_setY (s : State) (v : Byte) (addr : Word) : cellOf (s.setY v) addr = cellOf s addr := rfl
@[simp] theorem peek_setY (s : State) (v : Byte) (addr : Word) : peek (s.setY v) addr = peek s addr := rfl

/-! ### setSp -/

@[simp] theorem setSp_a (s : State) (v : Byte) : (s.setSp v).a = s.a := rfl
@[simp] theorem setSp_x (s : State) (v : Byte) : (s.setSp v).x = s.x := rfl
@[simp] theorem setSp_y (s : State) (v : Byte) : (s.setSp v).y = s.y := rfl
@[simp] theorem setSp_sp (s : State) (v : Byte) : (s.setSp v).sp = v := rfl
@[simp] theorem setSp_pc (s : State) (v : Byte) : (s.setSp v).pc = s.pc := rfl
@[simp] theorem setSp_p (s : State) (v : Byte) : (s.setSp v).p = s.p := rfl
@[simp] theorem setSp_jammed (s : State) (v : Byte) : (s.setSp v).jammed = s.jammed := rfl
@[simp] theorem setSp_currentOpcode (s : State) (v : Byte) : (s.setSp v).currentOpcode = s.currentOpcode := rfl
@[simp] theorem setSp_penalty (s : State) (v : Byte) : (s.setSp v).penalty = s.penalty := rfl
@[simp] theorem setSp_memories (s : State) (v : Byte) : (s.setSp v).memories = s.memories := rfl
@[simp] theorem setSp_peripherals (s : State) (v : Byte) : (s.setSp v).peripherals = s.peripherals := rfl
@[simp] theorem setSp_notifications (s : State) (v : Byte) : (s.setSp v).notifications = s.notifications := rfl
@[simp] theorem setSp_total (s : State) (v : Byte) : (s.setSp v).total = s.total := rfl
@[simp] theorem setSp_irq (s : State) (v : Byte) : (s.setSp v).irq = s.irq := rfl
@[simp] theorem setSp_draws (s : State) (v : Byte) : (s.setSp v).draws = s.draws := rfl
@[simp] theorem setSp_cfg (s : State) (v : Byte) : (s.setSp v).cfg = s.cfg := rfl
@[simp] theorem route_setSp (s : State) (v : Byte) (addr : Word) : route (s.setSp v) addr = route s addr := rfl
@[simp] theorem cellOf_setSp (s : State) (v : Byte) (addr : Word) : cellOf (s.setSp v) addr = cellOf s addr := rfl
@[simp] theorem peek_setSp (s : State) (v : Byte) (addr : Word) : peek (s.setSp v) addr = peek s addr := rfl

/-! ### setPc -/

@[simp] theorem setPc_a (s : State) (w : Word) : (s.setPc w).a = s.a := rfl
@[simp] theorem setPc_x (s : State) (w : Word) : (s.setPc w).x = s.x := rfl
@[simp] theorem setPc_y (s : State) (w : Word) : (s.setPc w).y = s.y := rfl
@[simp] theorem setPc_sp (s : State) (w : Word) : (s.setPc w).sp = s.sp := rfl
@[simp] theorem setPc_pc (s : State) (w : Word) : (s.setPc w).pc = w := rfl
@[simp] theorem setPc_p (s : State) (w : Word) : (s.setPc w).p = s.p := rfl
@[simp] theorem setPc_jammed (s : State) (w : Word) : (s.setPc w).jammed = s.jammed := rfl
@[simp] theorem setPc_currentOpcode (s : State) (w : Word) : (s.setPc w).currentOpcode = s.currentOpcode := rfl
@[simp] theorem setPc_penalty (s : State) (w : Word) : (s.setPc w).penalty = s.penalty := rfl
@[simp] theorem setPc_memories (s : State) (w : Word) : (s.setPc w).memories = s.memories := rfl
@[simp] theorem setPc_peripherals (s : State) (w : Word) : (s.setPc w).peripherals = s.peripherals := rfl
@[simp] theorem setPc_notifications (s : State) (w : Word) : (s.setPc w).notifications = s.notifications := rfl
@[simp] theorem setPc_total (s : State) (w : Word) : (s.setPc w).total = s.total := rfl
@[simp] theorem setPc_irq (s : State) (w : Word) : (s.setPc w).irq = s.irq := rfl
@[simp] theorem setPc_draws (s : State) (w : Word) : (s.setPc w).draws = s.draws := rfl
@[simp] theorem setPc_cfg (s : State) (w : Word) : (s.setPc w).cfg = s.cfg := rfl
@[simp] theorem route_setPc (s : State) (w : Word) (addr : Word) : route (s.setPc w) addr = route s addr := rfl
@[simp] theorem cellOf_setPc (s : State) (w : Word) (addr : Word) : cellOf (s.setPc w) addr = cellOf s addr := rfl
@[simp] theorem peek_setPc (s : State) (w : Word) (addr : Word) : peek (s.setPc w) addr = peek s addr := rfl

/-! ### setP -/

@[simp] theorem setP_a (s : State) (q : Status) : (s.setP q).a = s.a := rfl
@[simp] theorem setP_x (s : State) (q : Status) : (s.setP q).x = s.x := rfl
@[simp] theorem setP_y (s : State) (q : Status) : (s.setP q).y = s.y := rfl
@[simp] theorem setP_sp (s : State) (q : Status) : (s.setP q).sp = s.sp := rfl
@[simp] theorem setP_pc (s : State) (q : Status) : (s.setP q).pc = s.pc := rfl
@[simp] theorem setP_p (s : State) (q : Status) : (s.setP q).p = q := rfl
@[simp] theorem setP_jammed (s : State) (q : Status) : (s.setP q).jammed = s.jammed := rfl
@[simp] theorem setP_currentOpcode (s : State) (q : Status) : (s.setP q).currentOpcode = s.currentOpcode := rfl
@[simp] theorem setP_penalty (s : State) (q : Status) : (s.setP q).penalty = s.penalty := rfl
@[simp] theorem setP_memories (s : State) (q : Status) : (s.setP q).memories = s.memories := rfl
@[simp] theorem setP_peripherals (s : State) (q : Status) : (s.setP q).peripherals = s.peripherals := rfl
@[simp] theorem setP_notifications (s : State) (q : Status) : (s.setP q).notifications = s.notifications := rfl
@[simp] theorem setP_total (s : State) (q : Status) : (s.setP q).total = s.total := rfl
@[simp] theorem setP_irq (s : State) (q : Status) : (s.setP q).irq = s.irq := rfl
@[simp] theorem setP_draws (s : State) (q : Status) : (s.setP q).draws = s.draws := rfl
@[simp] theorem setP_cfg (s : State) (q : Status) : (s.setP q).cfg = s.cfg := rfl
@[simp] theorem route_setP (s : State) (q : Status) (addr : Word) : route (s.setP q) addr = route s addr := rfl
@[simp] theorem cellOf_setP (s : State) (q : Status) (addr : Word) : cellOf (s.setP q) addr = cellOf s addr := rfl
@[simp] theorem peek_setP (s : State) (q : Status) (addr : Word) : peek (s.setP q) addr = peek s addr := rfl

/-! ### setCurrentOpcode -/

@[simp] theorem setCurrentOpcode_a (s : State) (op : Byte) : (s.setCurrentOpcode op).a = s.a := rfl
@[simp] theorem setCurrentOpcode_x (s : State) (op : Byte) : (s.setCurrentOpcode op).x = s.x := rfl
@[simp] theorem setCurrentOpcode_y (s : State) (op : Byte) : (s.setCurrentOpcode op).y = s.y := rfl
@[simp] theorem setCurrentOpcode_sp (s : State) (op : Byte) : (s.setCurrentOpcode op).sp = s.sp := rfl
@[simp] theorem setCurrentOpcode_pc (s : State) (op : Byte) : (s.setCurrentOpcode op).pc = s.pc := rfl
@[simp] theorem setCurrentOpcode_p (s : State) (op : Byte) : (s.setCurrentOpcode op).p = s.p := rfl
@[simp] theorem setCurrentOpcode_jammed (s : State) (op : Byte) : (s.setCurrentOpcode op).jammed = s.jammed := rfl
@[simp] theorem setCurrentOpcode_currentOpcode (s : State) (op : Byte) : (s.setCurrentOpcode op).currentOpcode = op := rfl
@[simp] theorem setCurrentOpcode_penalty (s : State) (op : Byte) : (s.setCurrentOpcode op).penalty = s.penalty := rfl
@[simp] theorem setCurrentOpcode_memories (s : State) (op : Byte) : (s.setCurrentOpcode op).memories = s.memories := rfl
@[simp] theorem setCurrentOpcode_peripherals (s : State) (op : Byte) : (s.setCurrentOpcode op).peripherals = s.peripherals := rfl
@[simp] theorem setCurrentOpcode_notifications (s : State) (op : Byte) : (s.setCurrentOpcode op).notifications = s.notifications := rfl
@[simp] theorem setCurrentOpcode_total (s : State) (op : Byte) : (s.setCurrentOpcode op).total = s.total := rfl
@[simp] theorem setCurrentOpcode_irq (s : State) (op : Byte) : (s.setCurrentOpcode op).irq = s.irq := rfl
@[simp] theorem setCurrentOpcode_draws (s : State) (op : Byte) : (s.setCurrentOpcode op).draws = s.draws := rfl
@[simp] theorem setCurrentOpcode_cfg (s : State) (op : Byte) : (s.setCurrentOpcode op).cfg = s.cfg := rfl
@[simp] theorem route_setCurrentOpcode (s : State) (op : Byte) (addr : Word) : route (s.setCurrentOpcode op) addr = route s addr := rfl
@[simp] theorem cellOf_setCurrentOpcode (s : State) (op : Byte) (addr : Word) : cellOf (s.setCurrentOpcode op) addr = cellOf s addr := rfl
@[simp] theorem peek_setCurrentOpcode (s : State) (op : Byte) (addr : Word) : peek (s.setCurrentOpcode op) addr = peek s addr := rfl

/-! ### setPenalty -/

@[simp] theorem setPenalty_a (s : State) (n : Nat) : (s.setPenalty n).a = s.a := rfl
@[simp] theorem setPenalty_x (s : State) (n : Nat) : (s.setPenalty n).x = s.x := rfl
@[simp] theorem setPenalty_y (s : State) (n : Nat) : (s.setPenalty n).y = s.y := rfl
@[simp] theorem setPenalty_sp (s : State) (n : Nat) : (s.setPenalty n).sp = s.sp := rfl
@[simp] theorem setPenalty_pc (s : State) (n : Nat) : (s.setPenalty n).pc = s.pc := rfl
@[simp] theorem setPenalty_p (s : State) (n : Nat) : (s.setPenalty n).p = s.p := rfl
@[simp] theorem setPenalty_jammed (s : State) (n : Nat) : (s.setPenalty n).jammed = s.jammed := rfl
@[simp] theorem setPenalty_currentOpcode (s : State) (n : Nat) : (s.setPenalty n).currentOpcode = s.currentOpcode := rfl
@[simp] theorem setPenalty_penalty (s : State) (n : Nat) : (s.setPenalty n).penalty = n := rfl
@[simp] theorem setPenalty_memories (s : State) (n : Nat) : (s.setPenalty n).memories = s.memories := rfl
@[simp] theorem setPenalty_peripherals (s : State) (n : Nat) : (s.setPenalty n).peripherals = s.peripherals := rfl
@[simp] theorem setPenalty_notifications (s : State) (n : Nat) : (s.setPenalty n).notifications = s.notifications := rfl
@[simp] theorem setPenalty_total (s : State) (n : Nat) : (s.setPenalty n).total = s.total := rfl
@[simp] theorem setPenalty_irq (s : State) (n : Nat) : (s.setPenalty n).irq = s.irq := rfl
@[simp] theorem setPenalty_draws (s : State) (n : Nat) : (s.setPenalty n).draws = s.draws := rfl
@[simp] theorem setPenalty_cfg (s : State) (n : Nat) : (s.setPenalty n).cfg = s.cfg := rfl
@[simp] theorem route_setPenalty (s : State) (n : Nat) (addr : Word) : route (s.setPenalty n) addr = route s addr := rfl
@[simp] theorem cellOf_setPenalty (s : State) (n : Nat) (addr : Word) : cellOf (s.setPenalty n) addr = cellOf s addr := rfl
@[simp] theorem peek_setPenalty (s : State) (n : Nat) (addr : Word) : peek (s.setPenalty n) addr = peek s addr := rfl

/-! ### charge -/

@[simp] theorem charge_a (s : State) (n : Nat) : (s.charge n).a = s.a := rfl
@[simp] theorem charge_x (s : State) (n : Nat) : (s.charge n).x = s.x := rfl
@[simp] theorem charge_y (s : State) (n : Nat) : (s.charge n).y = s.y := rfl
@[simp] theorem charge_sp (s : State) (n : Nat) : (s.charge n).sp = s.sp := rfl
@[simp] theorem charge_pc (s : State) (n : Nat) : (s.charge n).pc = s.pc := rfl
@[simp] theorem charge_p (s : State) (n : Nat) : (s.charge n).p = s.p := rfl
@[simp] theorem charge_jammed (s : State) (n : Nat) : (s.charge n).jammed = s.jammed := rfl
@[simp] theorem charge_currentOpcode (s : State) (n : Nat) : (s.charge n).currentOpcode = s.currentOpcode := rfl
@[simp] theorem charge_penalty (s : State) (n : Nat) : (s.charge n).penalty = s.penalty + n := rfl
@[simp] theorem charge_memories (s : State) (n : Nat) : (s.charge n).memories = s.memories := rfl
@[simp] theorem charge_peripherals (s : State) (n : Nat) : (s.charge n).peripherals = s.peripherals := rfl
@[simp] theorem charge_notifications (s : State) (n : Nat) : (s.charge n).notifications = s.notifications := rfl
@[simp] theorem charge_total (s : State) (n : Nat) : (s.charge n).total = s.total := rfl
@[simp] theorem charge_irq (s : State) (n : Nat) : (s.charge n).irq = s.irq := rfl
@[simp] theorem charge_draws (s : State) (n : Nat) : (s.charge n).draws = s.draws := rfl
@[simp] theorem charge_cfg (s : State) (n : Nat) : (s.charge n).cfg = s.cfg := rfl
@[simp] theorem route_charge (s : State) (n : Nat) (addr : Word) : route (s.charge n) addr = route s addr := rfl
@[simp] theorem cellOf_charge (s : State) (n : Nat) (addr : Word) : cellOf (s.charge n) addr = cellOf s addr := rfl
@[simp] theorem peek_charge (s : State) (n : Nat) (addr : Word) : peek (s.charge n) addr = peek s addr := rfl

/-! ### halt -/

@[simp] theorem halt_a (s : State) : s.halt.a = s.a := rfl
@[simp] theorem halt_x (s : State) : s.halt.x = s.x := rfl
@[simp] theorem halt_y (s : State) : s.halt.y = s.y := rfl
@[simp] theorem halt_sp (s : State) : s.halt.sp = s.sp := rfl
@[simp] theorem halt_pc (s : State) : s.halt.pc = s.pc := rfl
@[simp] theorem halt_p (s : State) : s.halt.p = s.p := rfl
@[simp] theorem halt_jammed (s : State) : s.halt.jammed = true := rfl
@[simp] theorem halt_currentOpcode (s : State) : s.halt.currentOpcode = s.currentOpcode := rfl
@[simp] theorem halt_penalty (s : State) : s.halt.penalty = s.penalty := rfl
@[simp] theorem halt_memories (s : State) : s.halt.memories = s.memories := rfl
@[simp] theorem halt_peripherals (s : State) : s.halt.peripherals = s.peripherals := rfl
@[simp] theorem halt_notifications (s : State) : s.halt.notifications = s.notifications := rfl
@[simp] theorem halt_total (s : State) : s.halt.total = s.total := rfl
@[simp] theorem halt_irq (s : State) : s.halt.irq = s.irq := rfl
@[simp] theorem halt_draws (s : State) : s.halt.draws = s.draws := rfl
@[simp] theorem halt_cfg (s : State) : s.halt.cfg = s.cfg := rfl
@[simp] theorem route_halt (s : State) (addr : Word) : route s.halt addr = route s addr := rfl
@[simp] theorem cellOf_halt (s : State) (addr : Word) : cellOf s.halt addr = cellOf s addr := rfl
@[simp] theorem peek_halt (s : State) (addr : Word) : peek s.halt addr = peek s addr := rfl

/-! ### SetNZ -/

@[simp] theorem setNZ_a (s : State) (v : Byte) : (s.setNZ v).a = s.a := rfl
@[simp] theorem setNZ_x (s : State) (v : Byte) : (s.setNZ v).x = s.x := rfl
@[simp] theorem setNZ_y (s : State) (v : Byte) : (s.setNZ v).y = s.y := rfl
@[simp] theorem setNZ_sp (s : State) (v : Byte) : (s.setNZ v).sp = s.sp := rfl
@[simp] theorem setNZ_pc (s : State) (v : Byte) : (s.setNZ v).pc = s.pc := rfl
@[simp] theorem setNZ_p (s : State) (v : Byte) : (s.setNZ v).p = s.p.setNZ v := rfl
@[simp] theorem setNZ_jammed (s : State) (v : Byte) : (s.setNZ v).jammed = s.jammed := rfl
@[simp] theorem setNZ_currentOpcode (s : State) (v : Byte) : (s.setNZ v).currentOpcode = s.currentOpcode := rfl
@[simp] theorem setNZ_penalty (s : State) (v : Byte) : (s.setNZ v).penalty = s.penalty := rfl
@[simp] theorem setNZ_memories (s : State) (v : Byte) : (s.setNZ v).memories = s.memories := rfl
@[simp] theorem setNZ_peripherals (s : State) (v : Byte) : (s.setNZ v).peripherals = s.peripherals := rfl
@[simp] theorem setNZ_notifications (s : State) (v : Byte) : (s.setNZ v).notifications = s.notifications := rfl
@[simp] theorem setNZ_total (s : State) (v : Byte) : (s.setNZ v).total = s.total := rfl
@[simp] theorem setNZ_irq (s : State) (v : Byte) : (s.setNZ v).irq = s.irq := rfl
@[simp] theorem setNZ_draws (s : State) (v : Byte) : (s.setNZ v).draws = s.draws := rfl
@[simp] theorem setNZ_cfg (s : State) (v : Byte) : (s.setNZ v).cfg = s.cfg := rfl
@[simp] theorem route_setNZ (s : State) (v : Byte) (addr : Word) : route (s.setNZ v) addr = route s addr := rfl
@[simp] theorem cellOf_setNZ (s : State) (v : Byte) (addr : Word) : cellOf (s.setNZ v) addr = cellOf s addr := rfl
@[simp] theorem peek_setNZ (s : State) (v : Byte) (addr : Word) : peek (s.setNZ v) addr = peek s addr := rfl

@[simp] theorem Status.setNZ_n (p : Status) (v : Byte) : (p.setNZ v).n = v.getLsbD 7 := rfl
@[simp] theorem Status.setNZ_v (p : Status) (v : Byte) : (p.setNZ v).v = p.v := rfl
@[simp] theorem Status.setNZ_b (p : Status) (v : Byte) : (p.setNZ v).b = p.b := rfl
@[simp] theorem Status.setNZ_d (p : Status) (v : Byte) : (p.setNZ v).d = p.d := rfl
@[simp] theorem Status.setNZ_i (p : Status) (v : Byte) : (p.setNZ v).i = p.i := rfl
@[simp] theorem Status.setNZ_z (p : Status) (v : Byte) : (p.setNZ v).z = (v == 0) := rfl
@[simp] theorem Status.setNZ_c (p : Status) (v : Byte) : (p.setNZ v).c = p.c := rfl

/-! ### Updates of one field that cancel -/

@[simp] theorem setA_setA (s : State) (v w : Byte) : (s.setA v).setA w = s.setA w := rfl
@[simp] theorem setX_setX (s : State) (v w : Byte) : (s.setX v).setX w = s.setX w := rfl
@[simp] theorem setY_setY (s : State) (v w : Byte) : (s.setY v).setY w = s.setY w := rfl
@[simp] theorem setSp_setSp (s : State) (v w : Byte) : (s.setSp v).setSp w = s.setSp w := rfl
@[simp] theorem setPc_setPc (s : State) (v w : Word) : (s.setPc v).setPc w = s.setPc w := rfl
@[simp] theorem setP_setP (s : State) (v w : Status) : (s.setP v).setP w = s.setP w := rfl

end Sys2Proof.Machine
end

