-- ==== Sys2Proof/Laws/Bus.lean ====
section
/-! SUPPORT. What a Bus load and a Bus store can do, said once: the fields each leaves alone, what a later read finds, and
how the Memories may change. -/

namespace Sys2Proof.Machine

/-! ### Routes -/

/-- A route to a cell names a Memory that is there. -/
theorem route_cell_memory {s : State} {addr : Word} {k : Nat} {m : Memory} {off : Nat}
    (h : route s addr = .cell k m off) : s.memories[k]? = some m := by
  unfold route at h
  simp only at h
  split at h
  · cases h
  · split at h
    · split at h
      · cases h; assumption
      · cases h
    · cases h
    · cases h

/-- A route depends only on the parameters and the Memories. -/
theorem route_congr {s t : State} (hm : t.memories = s.memories) (hc : t.cfg = s.cfg) (addr : Word) :
    route t addr = route s addr := by
  unfold route
  rw [hm, hc]

theorem cellOf_congr {s t : State} (hm : t.memories = s.memories) (hc : t.cfg = s.cfg) (addr : Word) :
    cellOf t addr = cellOf s addr := by
  unfold cellOf
  rw [route_congr hm hc]

theorem peek_congr {s t : State} (hm : t.memories = s.memories) (hc : t.cfg = s.cfg) (addr : Word) :
    peek t addr = peek s addr := by
  unfold peek
  rw [route_congr hm hc, hc]

/-- What replacing Memory number `k` does to a route: only the Memory it reaches may differ. -/
theorem route_set {s t : State} {k : Nat} {m m' : Memory} (hk : s.memories[k]? = some m)
    (hm : t.memories = s.memories.set k m') (hc : t.cfg = s.cfg) (addr : Word) :
    route t addr = match route s addr with
      | .cell k' m₀ off => if k' = k then .cell k' m' off else .cell k' m₀ off
      | .device k' r w => .device k' r w
      | .unmapped => .unmapped := by
  have hlt : k < s.memories.length := (List.getElem?_eq_some_iff.mp hk).1
  unfold route
  rw [hm, hc]
  dsimp only
  generalize Config.rangeOf s.cfg (addr &&& s.cfg.addrMask) = found
  cases found with
  | none => rfl
  | some r =>
    obtain ⟨lines, value, target⟩ := r
    cases target with
    | fallback => rfl
    | peripheral k' base rm wm => rfl
    | memory k' base mask =>
      by_cases hkk : k' = k
      · subst hkk
        simp [hlt]
      · simp only [List.getElem?_set_ne (Ne.symm hkk)]
        cases s.memories[k']? <;> simp [hkk]

/-! ### Loads -/

/-- Everything a load can change: the draw counter and a peripheral's record. -/
theorem load_state (s : State) (addr : Word) :
    (load s addr).2 = { s with draws := (load s addr).2.draws, peripherals := (load s addr).2.peripherals } := by
  unfold load
  split <;> rfl

@[simp] theorem load_a (s : State) (addr : Word) : (load s addr).2.a = s.a := by rw [load_state]
@[simp] theorem load_x (s : State) (addr : Word) : (load s addr).2.x = s.x := by rw [load_state]
@[simp] theorem load_y (s : State) (addr : Word) : (load s addr).2.y = s.y := by rw [load_state]
@[simp] theorem load_sp (s : State) (addr : Word) : (load s addr).2.sp = s.sp := by rw [load_state]
@[simp] theorem load_pc (s : State) (addr : Word) : (load s addr).2.pc = s.pc := by rw [load_state]
@[simp] theorem load_p (s : State) (addr : Word) : (load s addr).2.p = s.p := by rw [load_state]
@[simp] theorem load_jammed (s : State) (addr : Word) : (load s addr).2.jammed = s.jammed := by rw [load_state]
@[simp] theorem load_currentOpcode (s : State) (addr : Word) : (load s addr).2.currentOpcode = s.currentOpcode := by rw [load_state]
@[simp] theorem load_penalty (s : State) (addr : Word) : (load s addr).2.penalty = s.penalty := by rw [load_state]
@[simp] theorem load_memories (s : State) (addr : Word) : (load s addr).2.memories = s.memories := by rw [load_state]
@[simp] theorem load_notifications (s : State) (addr : Word) : (load s addr).2.notifications = s.notifications := by rw [load_state]
@[simp] theorem load_total (s : State) (addr : Word) : (load s addr).2.total = s.total := by rw [load_state]
@[simp] theorem load_irq (s : State) (addr : Word) : (load s addr).2.irq = s.irq := by rw [load_state]
@[simp] theorem load_cfg (s : State) (addr : Word) : (load s addr).2.cfg = s.cfg := by rw [load_state]

@[simp] theorem route_load (s : State) (addr b : Word) : route (load s addr).2 b = route s b :=
  route_congr (by simp) (by simp) b

@[simp] theorem cellOf_load (s : State) (addr b : Word) : cellOf (load s addr).2 b = cellOf s b :=
  cellOf_congr (by simp) (by simp) b

@[simp] theorem peek_load (s : State) (addr b : Word) : peek (load s addr).2 b = peek s b :=
  peek_congr (by simp) (by simp) b

/-- Where a read finds a value without asking a peripheral, a load returns it and changes nothing. -/
theorem load_of_peek {s : State} {addr : Word} {v : Byte} (h : peek s addr = some v) : load s addr = (v, s) := by
  unfold peek at h
  unfold load
  split at h <;> rename_i hr <;> simp_all

/-- A load of a peripheral register is answered by the next free value. -/
theorem load_device {s : State} {addr : Word} {k r w : Nat} (h : route s addr = .device k r w) :
    load s addr = (Config.periphRead s.draws,
      { s with draws := s.draws + 1, peripherals := recordAccess s.peripherals k (.read r) }) := by
  simp [load, h]

/-! ### Stores -/

@[simp] theorem store_a (s : State) (addr : Word) (v : Byte) : (store s addr v).a = s.a := by
  unfold store; split <;> (try split) <;> rfl
@[simp] theorem store_x (s : State) (addr : Word) (v : Byte) : (store s addr v).x = s.x := by
  unfold store; split <;> (try split) <;> rfl
@[simp] theorem store_y (s : State) (addr : Word) (v : Byte) : (store s addr v).y = s.y := by
  unfold store; split <;> (try split) <;> rfl
@[simp] theorem store_sp (s : State) (addr : Word) (v : Byte) : (store s addr v).sp = s.sp := by
  unfold store; split <;> (try split) <;> rfl
@[simp] theorem store_pc (s : State) (addr : Word) (v : Byte) : (store s addr v).pc = s.pc := by
  unfold store; split <;> (try split) <;> rfl
@[simp] theorem store_p (s : State) (addr : Word) (v : Byte) : (store s addr v).p = s.p := by
  unfold store; split <;> (try split) <;> rfl
@[simp] theorem store_jammed (s : State) (addr : Word) (v : Byte) : (store s addr v).jammed = s.jammed := by
  unfold store; split <;> (try split) <;> rfl
@[simp] theorem store_currentOpcode (s : State) (addr : Word) (v : Byte) : (store s addr v).currentOpcode = s.currentOpcode := by
  unfold store; split <;> (try split) <;> rfl
@[simp] theorem store_penalty (s : State) (addr : Word) (v : Byte) : (store s addr v).penalty = s.penalty := by
  unfold store; split <;> (try split) <;> rfl
@[simp] theorem store_total (s : State) (addr : Word) (v : Byte) : (store s addr v).total = s.total := by
  unfold store; split <;> (try split) <;> rfl
@[simp] theorem store_irq (s : State) (addr : Word) (v : Byte) : (store s addr v).irq = s.irq := by
  unfold store; split <;> (try split) <;> rfl
@[simp] theorem store_draws (s : State) (addr : Word) (v : Byte) : (store s addr v).draws = s.draws := by
  unfold store; split <;> (try split) <;> rfl
@[simp] theorem store_cfg (s : State) (addr : Word) (v : Byte) : (store s addr v).cfg = s.cfg := by
  unfold store; split <;> (try split) <;> rfl

theorem store_cell {s : State} {addr : Word} {k : Nat} {m : Memory} {off : Nat} (h : route s addr = .cell k m off)
    (hw : m.readOnly = false) (v : Byte) :
    store s addr v = { s with
      notifications := notices k m off v ++ s.notifications, memories := s.memories.set k (m.put off v) } := by
  simp [store, h, hw]

/-- A store to a read-only Memory is discarded. -/
theorem store_readOnly {s : State} {addr : Word} {k : Nat} {m : Memory} {off : Nat} (h : route s addr = .cell k m off)
    (hw : m.readOnly = true) (v : Byte) : store s addr v = s := by
  simp [store, h, hw]

theorem store_device {s : State} {addr : Word} {k r w : Nat} (h : route s addr = .device k r w) (v : Byte) :
    store s addr v = { s with peripherals := recordAccess s.peripherals k (.write w v) } := by
  simp [store, h]

/-- A store to the fallback range is discarded. -/
theorem store_unmapped {s : State} {addr : Word} (h : route s addr = .unmapped) (v : Byte) : store s addr v = s := by
  simp [store, h]

/-- What a store to a writable Memory does to the route of any address. -/
theorem route_store {s : State} {addr : Word} {k : Nat} {m : Memory} {off : Nat} (h : route s addr = .cell k m off)
    (hw : m.readOnly = false) (v : Byte) (b : Word) :
    route (store s addr v) b = match route s b with
      | .cell k' m₀ off' => if k' = k then .cell k' (m.put off v) off' else .cell k' m₀ off'
      | .device k' r w => .device k' r w
      | .unmapped => .unmapped :=
  route_set (route_cell_memory h) (by rw [store_cell h hw]) (by rw [store_cell h hw]) b

/-- A store changes no address's cell. -/
@[simp] theorem cellOf_store (s : State) (addr b : Word) (v : Byte) : cellOf (store s addr v) b = cellOf s b := by
  cases hr : route s addr with
  | unmapped => rw [store_unmapped hr]
  | device k r w => rw [store_device hr]; exact cellOf_congr rfl rfl b
  | cell k m off =>
    cases hw : m.readOnly with
    | true => rw [store_readOnly hr hw]
    | false =>
      have hk := route_cell_memory hr
      unfold cellOf
      rw [route_store hr hw]
      cases hb : route s b with
      | unmapped => rfl
      | device k' r w => rfl
      | cell k' m' off' =>
        by_cases hkk : k' = k
        · subst hkk
          have := route_cell_memory hb
          rw [hk] at this
          cases this
          simp
        · simp [hkk]

/-- A store leaves every byte outside its cell as it was. -/
theorem peek_store_other (s : State) (addr b : Word) (v : Byte) (h : cellOf s b = none ∨ cellOf s b ≠ cellOf s addr) :
    peek (store s addr v) b = peek s b := by
  cases hr : route s addr with
  | unmapped => rw [store_unmapped hr]
  | device k r w => rw [store_device hr]; exact peek_congr rfl rfl b
  | cell k m off =>
    cases hw : m.readOnly with
    | true => rw [store_readOnly hr hw]
    | false =>
      have hk := route_cell_memory hr
      unfold peek
      rw [route_store hr hw, store_cfg]
      cases hb : route s b with
      | unmapped => rfl
      | device k' r w => rfl
      | cell k' m' off' =>
        by_cases hkk : k' = k
        · subst hkk
          have hm := route_cell_memory hb
          rw [hk] at hm
          cases hm
          have hne : m.index off' ≠ m.index off := by
            intro he
            rcases h with h | h
            · simp [cellOf, hb] at h
            · simp [cellOf, hb, hr, he] at h
          simp [Memory.load_put_other m off off' v hne]
        · simp [hkk]

/-- A store to a writable Memory in canonical form is seen at every address of the same cell. -/
theorem peek_store_same {s : State} {addr b : Word} {k : Nat} {m : Memory} {off : Nat}
    (h : route s addr = .cell k m off) (hw : m.readOnly = false) (hwf : m.wf = true) (v : Byte)
    (hb : cellOf s b = cellOf s addr) : peek (store s addr v) b = some v := by
  have hk := route_cell_memory h
  unfold peek
  rw [route_store h hw, store_cfg]
  cases hrb : route s b with
  | unmapped => simp [cellOf, hrb, h] at hb
  | device k' r w => simp [cellOf, hrb, h] at hb
  | cell k' m' off' =>
    simp only [cellOf, hrb, h, Option.some.injEq, Prod.mk.injEq] at hb
    obtain ⟨hkk, hi⟩ := hb
    subst hkk
    have hm := route_cell_memory hrb
    rw [hk] at hm
    cases hm
    simp [Memory.load_put_same hwf off off' v hi]

/-! ### How the Memories, the peripherals and the parameters may evolve -/

/-- What no Bus access changes about a Memory: everything but the cells of a writable one, and its canonical form. -/
structure Memory.Evolves (m m' : Memory) : Prop where
  name : m'.name = m.name
  cap : m'.cap = m.cap
  readOnly : m'.readOnly = m.readOnly
  observers : m'.observers = m.observers
  rom : m.readOnly = true → m'.cells = m.cells
  wf : m.wf = true → m'.wf = true

theorem Memory.Evolves.refl (m : Memory) : m.Evolves m := ⟨rfl, rfl, rfl, rfl, fun _ => rfl, id⟩

theorem Memory.Evolves.trans {m m' m'' : Memory} (h : m.Evolves m') (h' : m'.Evolves m'') : m.Evolves m'' :=
  ⟨h'.name.trans h.name, h'.cap.trans h.cap, h'.readOnly.trans h.readOnly, h'.observers.trans h.observers,
    fun hr => (h'.rom (h.readOnly.trans hr)).trans (h.rom hr), fun hw => h'.wf (h.wf hw)⟩

/-- What no operation of an instruction changes: the parameters, the inputs, the Computer's count, the ticks, and the
Memories but for the cells of the writable ones. -/
structure State.Evolves (s t : State) : Prop where
  cfg : t.cfg = s.cfg
  irq : t.irq = s.irq
  total : t.total = s.total
  ticks : t.peripherals.map (·.ticks) = s.peripherals.map (·.ticks)
  count : t.memories.length = s.memories.length
  memories : ∀ (k : Nat) (m : Memory), s.memories[k]? = some m → ∃ m', t.memories[k]? = some m' ∧ Memory.Evolves m m'

theorem State.Evolves.refl (s : State) : s.Evolves s :=
  ⟨rfl, rfl, rfl, rfl, rfl, fun _ m h => ⟨m, h, Memory.Evolves.refl m⟩⟩

theorem State.Evolves.trans {s t u : State} (h : s.Evolves t) (h' : t.Evolves u) : s.Evolves u where
  cfg := h'.cfg.trans h.cfg
  irq := h'.irq.trans h.irq
  total := h'.total.trans h.total
  ticks := h'.ticks.trans h.ticks
  count := h'.count.trans h.count
  memories := fun k m hm => by
    obtain ⟨m', hm', he⟩ := h.memories k m hm
    obtain ⟨m'', hm'', he'⟩ := h'.memories k m' hm'
    exact ⟨m'', hm'', he.trans he'⟩

/-- A state that differs only in what an instruction may always write evolves from the other. -/
theorem State.Evolves.of_eq {s t : State} (hc : t.cfg = s.cfg) (hi : t.irq = s.irq) (ht : t.total = s.total)
    (hp : t.peripherals.map (·.ticks) = s.peripherals.map (·.ticks)) (hm : t.memories = s.memories) : s.Evolves t :=
  ⟨hc, hi, ht, hp, by rw [hm], fun _ m h => ⟨m, by rw [hm]; exact h, Memory.Evolves.refl m⟩⟩

theorem recordAccess_ticks (ps : List Peripheral) (k : Nat) (acc : PeriphAccess) :
    (recordAccess ps k acc).map (·.ticks) = ps.map (·.ticks) := by
  unfold recordAccess
  apply List.ext_getElem?
  intro j
  simp only [List.getElem?_map, List.getElem?_modify]
  cases ps[j]? with
  | none => simp
  | some p => by_cases h : k = j <;> simp [h]

theorem load_evolves (s : State) (addr : Word) : s.Evolves (load s addr).2 := by
  refine State.Evolves.of_eq (by simp) (by simp) (by simp) ?_ (by simp)
  unfold load
  split
  · rfl
  · exact recordAccess_ticks _ _ _
  · rfl

theorem store_evolves (s : State) (addr : Word) (v : Byte) : s.Evolves (store s addr v) := by
  cases hr : route s addr with
  | unmapped => rw [store_unmapped hr]; exact State.Evolves.refl s
  | device k r w =>
    rw [store_device hr]
    exact State.Evolves.of_eq rfl rfl rfl (recordAccess_ticks _ _ _) rfl
  | cell k m off =>
    cases hw : m.readOnly with
    | true => rw [store_readOnly hr hw]; exact State.Evolves.refl s
    | false =>
      rw [store_cell hr hw]
      have hk := route_cell_memory hr
      refine ⟨rfl, rfl, rfl, rfl, by simp, fun j m₀ hj => ?_⟩
      by_cases hjk : k = j
      · subst hjk
        rw [hk] at hj
        cases hj
        have hlt : k < s.memories.length := (List.getElem?_eq_some_iff.mp hk).1
        exact ⟨m.put off v, by simp [hlt],
          ⟨rfl, rfl, rfl, rfl, fun h => by simp [hw] at h, fun h => Memory.put_wf h off v⟩⟩
      · exact ⟨m₀, by simpa [List.getElem?_set_ne hjk] using hj, Memory.Evolves.refl m₀⟩

/-! ### The Bus reads and writes no register -/

theorem load_setA (s : State) (r : Byte) (addr : Word) : load (s.setA r) addr = ((load s addr).1, (load s addr).2.setA r) := by
  unfold load
  rw [route_congr (t := s.setA r) (s := s) rfl rfl]
  split <;> rfl

theorem store_setA (s : State) (r : Byte) (addr : Word) (v : Byte) : store (s.setA r) addr v = (store s addr v).setA r := by
  unfold store
  rw [route_congr (t := s.setA r) (s := s) rfl rfl]
  split <;> (try split) <;> rfl

theorem load_setX (s : State) (r : Byte) (addr : Word) : load (s.setX r) addr = ((load s addr).1, (load s addr).2.setX r) := by
  unfold load
  rw [route_congr (t := s.setX r) (s := s) rfl rfl]
  split <;> rfl

theorem store_setX (s : State) (r : Byte) (addr : Word) (v : Byte) : store (s.setX r) addr v = (store s addr v).setX r := by
  unfold store
  rw [route_congr (t := s.setX r) (s := s) rfl rfl]
  split <;> (try split) <;> rfl

theorem load_setY (s : State) (r : Byte) (addr : Word) : load (s.setY r) addr = ((load s addr).1, (load s addr).2.setY r) := by
  unfold load
  rw [route_congr (t := s.setY r) (s := s) rfl rfl]
  split <;> rfl

theorem store_setY (s : State) (r : Byte) (addr : Word) (v : Byte) : store (s.setY r) addr v = (store s addr v).setY r := by
  unfold store
  rw [route_congr (t := s.setY r) (s := s) rfl rfl]
  split <;> (try split) <;> rfl

theorem load_setSp (s : State) (r : Byte) (addr : Word) : load (s.setSp r) addr = ((load s addr).1, (load s addr).2.setSp r) := by
  unfold load
  rw [route_congr (t := s.setSp r) (s := s) rfl rfl]
  split <;> rfl

theorem store_setSp (s : State) (r : Byte) (addr : Word) (v : Byte) : store (s.setSp r) addr v = (store s addr v).setSp r := by
  unfold store
  rw [route_congr (t := s.setSp r) (s := s) rfl rfl]
  split <;> (try split) <;> rfl

theorem load_setPc (s : State) (r : Word) (addr : Word) : load (s.setPc r) addr = ((load s addr).1, (load s addr).2.setPc r) := by
  unfold load
  rw [route_congr (t := s.setPc r) (s := s) rfl rfl]
  split <;> rfl

theorem store_setPc (s : State) (r : Word) (addr : Word) (v : Byte) : store (s.setPc r) addr v = (store s addr v).setPc r := by
  unfold store
  rw [route_congr (t := s.setPc r) (s := s) rfl rfl]
  split <;> (try split) <;> rfl

theorem load_setP (s : State) (r : Status) (addr : Word) : load (s.setP r) addr = ((load s addr).1, (load s addr).2.setP r) := by
  unfold load
  rw [route_congr (t := s.setP r) (s := s) rfl rfl]
  split <;> rfl

theorem store_setP (s : State) (r : Status) (addr : Word) (v : Byte) : store (s.setP r) addr v = (store s addr v).setP r := by
  unfold store
  rw [route_congr (t := s.setP r) (s := s) rfl rfl]
  split <;> (try split) <;> rfl

theorem load_setCurrentOpcode (s : State) (r : Byte) (addr : Word) : load (s.setCurrentOpcode r) addr = ((load s addr).1, (load s addr).2.setCurrentOpcode r) := by
  unfold load
  rw [route_congr (t := s.setCurrentOpcode r) (s := s) rfl rfl]
  split <;> rfl

theorem store_setCurrentOpcode (s : State) (r : Byte) (addr : Word) (v : Byte) : store (s.setCurrentOpcode r) addr v = (store s addr v).setCurrentOpcode r := by
  unfold store
  rw [route_congr (t := s.setCurrentOpcode r) (s := s) rfl rfl]
  split <;> (try split) <;> rfl

theorem load_setPenalty (s : State) (r : Nat) (addr : Word) : load (s.setPenalty r) addr = ((load s addr).1, (load s addr).2.setPenalty r) := by
  unfold load
  rw [route_congr (t := s.setPenalty r) (s := s) rfl rfl]
  split <;> rfl

theorem store_setPenalty (s : State) (r : Nat) (addr : Word) (v : Byte) : store (s.setPenalty r) addr v = (store s addr v).setPenalty r := by
  unfold store
  rw [route_congr (t := s.setPenalty r) (s := s) rfl rfl]
  split <;> (try split) <;> rfl

end Sys2Proof.Machine
end

