-- ==== Sys2Proof/Laws/Ops.lean ====
section
/-! SUPPORT. What each shared operation over the Bus can do: the fields it leaves alone, and that it lets the machine evolve
only as `State.Evolves` says. -/

namespace Sys2Proof.Machine

/-! ### loadWord -/

@[simp] theorem loadWord_a (s : State) (addr : Word) : ((loadWord s addr).2).a = s.a := by simp [loadWord]
@[simp] theorem loadWord_x (s : State) (addr : Word) : ((loadWord s addr).2).x = s.x := by simp [loadWord]
@[simp] theorem loadWord_y (s : State) (addr : Word) : ((loadWord s addr).2).y = s.y := by simp [loadWord]
@[simp] theorem loadWord_sp (s : State) (addr : Word) : ((loadWord s addr).2).sp = s.sp := by simp [loadWord]
@[simp] theorem loadWord_pc (s : State) (addr : Word) : ((loadWord s addr).2).pc = s.pc := by simp [loadWord]
@[simp] theorem loadWord_p (s : State) (addr : Word) : ((loadWord s addr).2).p = s.p := by simp [loadWord]
@[simp] theorem loadWord_jammed (s : State) (addr : Word) : ((loadWord s addr).2).jammed = s.jammed := by simp [loadWord]
@[simp] theorem loadWord_currentOpcode (s : State) (addr : Word) : ((loadWord s addr).2).currentOpcode = s.currentOpcode := by simp [loadWord]
@[simp] theorem loadWord_penalty (s : State) (addr : Word) : ((loadWord s addr).2).penalty = s.penalty := by simp [loadWord]
@[simp] theorem loadWord_memories (s : State) (addr : Word) : ((loadWord s addr).2).memories = s.memories := by simp [loadWord]
@[simp] theorem loadWord_notifications (s : State) (addr : Word) : ((loadWord s addr).2).notifications = s.notifications := by simp [loadWord]
@[simp] theorem loadWord_total (s : State) (addr : Word) : ((loadWord s addr).2).total = s.total := by simp [loadWord]
@[simp] theorem loadWord_irq (s : State) (addr : Word) : ((loadWord s addr).2).irq = s.irq := by simp [loadWord]
@[simp] theorem loadWord_cfg (s : State) (addr : Word) : ((loadWord s addr).2).cfg = s.cfg := by simp [loadWord]
@[simp] theorem route_loadWord (s : State) (addr : Word) (b : Word) : route ((loadWord s addr).2) b = route s b :=
  route_congr (by simp) (by simp) b
@[simp] theorem cellOf_loadWord (s : State) (addr : Word) (b : Word) : cellOf ((loadWord s addr).2) b = cellOf s b :=
  cellOf_congr (by simp) (by simp) b
@[simp] theorem peek_loadWord (s : State) (addr : Word) (b : Word) : peek ((loadWord s addr).2) b = peek s b :=
  peek_congr (by simp) (by simp) b

/-! ### fetchByte -/

@[simp] theorem fetchByte_a (s : State) : ((fetchByte s).2).a = s.a := by simp [fetchByte]
@[simp] theorem fetchByte_x (s : State) : ((fetchByte s).2).x = s.x := by simp [fetchByte]
@[simp] theorem fetchByte_y (s : State) : ((fetchByte s).2).y = s.y := by simp [fetchByte]
@[simp] theorem fetchByte_sp (s : State) : ((fetchByte s).2).sp = s.sp := by simp [fetchByte]
@[simp] theorem fetchByte_pc (s : State) : ((fetchByte s).2).pc = s.pc + 1 := by simp [fetchByte]
@[simp] theorem fetchByte_p (s : State) : ((fetchByte s).2).p = s.p := by simp [fetchByte]
@[simp] theorem fetchByte_jammed (s : State) : ((fetchByte s).2).jammed = s.jammed := by simp [fetchByte]
@[simp] theorem fetchByte_currentOpcode (s : State) : ((fetchByte s).2).currentOpcode = s.currentOpcode := by simp [fetchByte]
@[simp] theorem fetchByte_penalty (s : State) : ((fetchByte s).2).penalty = s.penalty := by simp [fetchByte]
@[simp] theorem fetchByte_memories (s : State) : ((fetchByte s).2).memories = s.memories := by simp [fetchByte]
@[simp] theorem fetchByte_notifications (s : State) : ((fetchByte s).2).notifications = s.notifications := by simp [fetchByte]
@[simp] theorem fetchByte_total (s : State) : ((fetchByte s).2).total = s.total := by simp [fetchByte]
@[simp] theorem fetchByte_irq (s : State) : ((fetchByte s).2).irq = s.irq := by simp [fetchByte]
@[simp] theorem fetchByte_cfg (s : State) : ((fetchByte s).2).cfg = s.cfg := by simp [fetchByte]
@[simp] theorem route_fetchByte (s : State) (b : Word) : route ((fetchByte s).2) b = route s b :=
  route_congr (by simp) (by simp) b
@[simp] theorem cellOf_fetchByte (s : State) (b : Word) : cellOf ((fetchByte s).2) b = cellOf s b :=
  cellOf_congr (by simp) (by simp) b
@[simp] theorem peek_fetchByte (s : State) (b : Word) : peek ((fetchByte s).2) b = peek s b :=
  peek_congr (by simp) (by simp) b

theorem pc_add_two (w : Word) : w + 1 + 1 = w + 2 := by bv_omega

/-! ### fetchWord -/

@[simp] theorem fetchWord_a (s : State) : ((fetchWord s).2).a = s.a := by simp [fetchWord]
@[simp] theorem fetchWord_x (s : State) : ((fetchWord s).2).x = s.x := by simp [fetchWord]
@[simp] theorem fetchWord_y (s : State) : ((fetchWord s).2).y = s.y := by simp [fetchWord]
@[simp] theorem fetchWord_sp (s : State) : ((fetchWord s).2).sp = s.sp := by simp [fetchWord]
@[simp] theorem fetchWord_p (s : State) : ((fetchWord s).2).p = s.p := by simp [fetchWord]
@[simp] theorem fetchWord_jammed (s : State) : ((fetchWord s).2).jammed = s.jammed := by simp [fetchWord]
@[simp] theorem fetchWord_currentOpcode (s : State) : ((fetchWord s).2).currentOpcode = s.currentOpcode := by simp [fetchWord]
@[simp] theorem fetchWord_penalty (s : State) : ((fetchWord s).2).penalty = s.penalty := by simp [fetchWord]
@[simp] theorem fetchWord_memories (s : State) : ((fetchWord s).2).memories = s.memories := by simp [fetchWord]
@[simp] theorem fetchWord_notifications (s : State) : ((fetchWord s).2).notifications = s.notifications := by simp [fetchWord]
@[simp] theorem fetchWord_total (s : State) : ((fetchWord s).2).total = s.total := by simp [fetchWord]
@[simp] theorem fetchWord_irq (s : State) : ((fetchWord s).2).irq = s.irq := by simp [fetchWord]
@[simp] theorem fetchWord_cfg (s : State) : ((fetchWord s).2).cfg = s.cfg := by simp [fetchWord]
@[simp] theorem route_fetchWord (s : State) (b : Word) : route ((fetchWord s).2) b = route s b :=
  route_congr (by simp) (by simp) b
@[simp] theorem cellOf_fetchWord (s : State) (b : Word) : cellOf ((fetchWord s).2) b = cellOf s b :=
  cellOf_congr (by simp) (by simp) b
@[simp] theorem peek_fetchWord (s : State) (b : Word) : peek ((fetchWord s).2) b = peek s b :=
  peek_congr (by simp) (by simp) b

@[simp] theorem fetchWord_pc (s : State) : (fetchWord s).2.pc = s.pc + 2 := by
  simp only [fetchWord, fetchByte_pc]
  exact pc_add_two s.pc

/-! ### push -/

@[simp] theorem push_a (s : State) (v : Byte) : (push s v).a = s.a := by simp [push]
@[simp] theorem push_x (s : State) (v : Byte) : (push s v).x = s.x := by simp [push]
@[simp] theorem push_y (s : State) (v : Byte) : (push s v).y = s.y := by simp [push]
@[simp] theorem push_sp (s : State) (v : Byte) : (push s v).sp = s.sp - 1 := by simp [push]
@[simp] theorem push_pc (s : State) (v : Byte) : (push s v).pc = s.pc := by simp [push]
@[simp] theorem push_p (s : State) (v : Byte) : (push s v).p = s.p := by simp [push]
@[simp] theorem push_jammed (s : State) (v : Byte) : (push s v).jammed = s.jammed := by simp [push]
@[simp] theorem push_currentOpcode (s : State) (v : Byte) : (push s v).currentOpcode = s.currentOpcode := by simp [push]
@[simp] theorem push_penalty (s : State) (v : Byte) : (push s v).penalty = s.penalty := by simp [push]
@[simp] theorem push_total (s : State) (v : Byte) : (push s v).total = s.total := by simp [push]
@[simp] theorem push_irq (s : State) (v : Byte) : (push s v).irq = s.irq := by simp [push]
@[simp] theorem push_draws (s : State) (v : Byte) : (push s v).draws = s.draws := by simp [push]
@[simp] theorem push_cfg (s : State) (v : Byte) : (push s v).cfg = s.cfg := by simp [push]

/-! ### pull -/

@[simp] theorem pull_a (s : State) : ((pull s).2).a = s.a := by simp [pull]
@[simp] theorem pull_x (s : State) : ((pull s).2).x = s.x := by simp [pull]
@[simp] theorem pull_y (s : State) : ((pull s).2).y = s.y := by simp [pull]
@[simp] theorem pull_sp (s : State) : ((pull s).2).sp = s.sp + 1 := by simp [pull]
@[simp] theorem pull_pc (s : State) : ((pull s).2).pc = s.pc := by simp [pull]
@[simp] theorem pull_p (s : State) : ((pull s).2).p = s.p := by simp [pull]
@[simp] theorem pull_jammed (s : State) : ((pull s).2).jammed = s.jammed := by simp [pull]
@[simp] theorem pull_currentOpcode (s : State) : ((pull s).2).currentOpcode = s.currentOpcode := by simp [pull]
@[simp] theorem pull_penalty (s : State) : ((pull s).2).penalty = s.penalty := by simp [pull]
@[simp] theorem pull_memories (s : State) : ((pull s).2).memories = s.memories := by simp [pull]
@[simp] theorem pull_notifications (s : State) : ((pull s).2).notifications = s.notifications := by simp [pull]
@[simp] theorem pull_total (s : State) : ((pull s).2).total = s.total := by simp [pull]
@[simp] theorem pull_irq (s : State) : ((pull s).2).irq = s.irq := by simp [pull]
@[simp] theorem pull_cfg (s : State) : ((pull s).2).cfg = s.cfg := by simp [pull]
@[simp] theorem route_pull (s : State) (b : Word) : route ((pull s).2) b = route s b :=
  route_congr (by simp) (by simp) b
@[simp] theorem cellOf_pull (s : State) (b : Word) : cellOf ((pull s).2) b = cellOf s b :=
  cellOf_congr (by simp) (by simp) b
@[simp] theorem peek_pull (s : State) (b : Word) : peek ((pull s).2) b = peek s b :=
  peek_congr (by simp) (by simp) b

/-! ### zeroPagePointer -/

@[simp] theorem zeroPagePointer_a (s : State) (z : Byte) : ((zeroPagePointer s z).2).a = s.a := by simp [zeroPagePointer]
@[simp] theorem zeroPagePointer_x (s : State) (z : Byte) : ((zeroPagePointer s z).2).x = s.x := by simp [zeroPagePointer]
@[simp] theorem zeroPagePointer_y (s : State) (z : Byte) : ((zeroPagePointer s z).2).y = s.y := by simp [zeroPagePointer]
@[simp] theorem zeroPagePointer_sp (s : State) (z : Byte) : ((zeroPagePointer s z).2).sp = s.sp := by simp [zeroPagePointer]
@[simp] theorem zeroPagePointer_pc (s : State) (z : Byte) : ((zeroPagePointer s z).2).pc = s.pc := by simp [zeroPagePointer]
@[simp] theorem zeroPagePointer_p (s : State) (z : Byte) : ((zeroPagePointer s z).2).p = s.p := by simp [zeroPagePointer]
@[simp] theorem zeroPagePointer_jammed (s : State) (z : Byte) : ((zeroPagePointer s z).2).jammed = s.jammed := by simp [zeroPagePointer]
@[simp] theorem zeroPagePointer_currentOpcode (s : State) (z : Byte) : ((zeroPagePointer s z).2).currentOpcode = s.currentOpcode := by simp [zeroPagePointer]
@[simp] theorem zeroPagePointer_penalty (s : State) (z : Byte) : ((zeroPagePointer s z).2).penalty = s.penalty := by simp [zeroPagePointer]
@[simp] theorem zeroPagePointer_memories (s : State) (z : Byte) : ((zeroPagePointer s z).2).memories = s.memories := by simp [zeroPagePointer]
@[simp] theorem zeroPagePointer_notifications (s : State) (z : Byte) : ((zeroPagePointer s z).2).notifications = s.notifications := by simp [zeroPagePointer]
@[simp] theorem zeroPagePointer_total (s : State) (z : Byte) : ((zeroPagePointer s z).2).total = s.total := by simp [zeroPagePointer]
@[simp] theorem zeroPagePointer_irq (s : State) (z : Byte) : ((zeroPagePointer s z).2).irq = s.irq := by simp [zeroPagePointer]
@[simp] theorem zeroPagePointer_cfg (s : State) (z : Byte) : ((zeroPagePointer s z).2).cfg = s.cfg := by simp [zeroPagePointer]
@[simp] theorem route_zeroPagePointer (s : State) (z : Byte) (b : Word) : route ((zeroPagePointer s z).2) b = route s b :=
  route_congr (by simp) (by simp) b
@[simp] theorem cellOf_zeroPagePointer (s : State) (z : Byte) (b : Word) : cellOf ((zeroPagePointer s z).2) b = cellOf s b :=
  cellOf_congr (by simp) (by simp) b
@[simp] theorem peek_zeroPagePointer (s : State) (z : Byte) (b : Word) : peek ((zeroPagePointer s z).2) b = peek s b :=
  peek_congr (by simp) (by simp) b

/-! ### indexed -/

@[simp] theorem indexed_state (base : Word) (index : Byte) (s : State) : (indexed base index s).state = s := rfl

/-! ### resolve -/

@[simp] theorem resolve_a (m : AddrMode) (s : State) : (resolve m s).state.a = s.a := by
  cases m <;> simp [resolve]
@[simp] theorem resolve_x (m : AddrMode) (s : State) : (resolve m s).state.x = s.x := by
  cases m <;> simp [resolve]
@[simp] theorem resolve_y (m : AddrMode) (s : State) : (resolve m s).state.y = s.y := by
  cases m <;> simp [resolve]
@[simp] theorem resolve_sp (m : AddrMode) (s : State) : (resolve m s).state.sp = s.sp := by
  cases m <;> simp [resolve]
@[simp] theorem resolve_pc (m : AddrMode) (s : State) : (resolve m s).state.pc = s.pc := by
  cases m <;> simp [resolve]
@[simp] theorem resolve_p (m : AddrMode) (s : State) : (resolve m s).state.p = s.p := by
  cases m <;> simp [resolve]
@[simp] theorem resolve_jammed (m : AddrMode) (s : State) : (resolve m s).state.jammed = s.jammed := by
  cases m <;> simp [resolve]
@[simp] theorem resolve_currentOpcode (m : AddrMode) (s : State) : (resolve m s).state.currentOpcode = s.currentOpcode := by
  cases m <;> simp [resolve]
@[simp] theorem resolve_penalty (m : AddrMode) (s : State) : (resolve m s).state.penalty = s.penalty := by
  cases m <;> simp [resolve]
@[simp] theorem resolve_memories (m : AddrMode) (s : State) : (resolve m s).state.memories = s.memories := by
  cases m <;> simp [resolve]
@[simp] theorem resolve_notifications (m : AddrMode) (s : State) : (resolve m s).state.notifications = s.notifications := by
  cases m <;> simp [resolve]
@[simp] theorem resolve_total (m : AddrMode) (s : State) : (resolve m s).state.total = s.total := by
  cases m <;> simp [resolve]
@[simp] theorem resolve_irq (m : AddrMode) (s : State) : (resolve m s).state.irq = s.irq := by
  cases m <;> simp [resolve]
@[simp] theorem resolve_cfg (m : AddrMode) (s : State) : (resolve m s).state.cfg = s.cfg := by
  cases m <;> simp [resolve]
@[simp] theorem route_resolve (m : AddrMode) (s : State) (b : Word) : route (resolve m s).state b = route s b :=
  route_congr (by simp) (by simp) b
@[simp] theorem cellOf_resolve (m : AddrMode) (s : State) (b : Word) : cellOf (resolve m s).state b = cellOf s b :=
  cellOf_congr (by simp) (by simp) b
@[simp] theorem peek_resolve (m : AddrMode) (s : State) (b : Word) : peek (resolve m s).state b = peek s b :=
  peek_congr (by simp) (by simp) b

/-! ### chargeCross -/

@[simp] theorem chargeCross_a (r : Resolved) : (chargeCross r).a = r.state.a := by
  unfold chargeCross; split <;> rfl
@[simp] theorem chargeCross_x (r : Resolved) : (chargeCross r).x = r.state.x := by
  unfold chargeCross; split <;> rfl
@[simp] theorem chargeCross_y (r : Resolved) : (chargeCross r).y = r.state.y := by
  unfold chargeCross; split <;> rfl
@[simp] theorem chargeCross_sp (r : Resolved) : (chargeCross r).sp = r.state.sp := by
  unfold chargeCross; split <;> rfl
@[simp] theorem chargeCross_pc (r : Resolved) : (chargeCross r).pc = r.state.pc := by
  unfold chargeCross; split <;> rfl
@[simp] theorem chargeCross_p (r : Resolved) : (chargeCross r).p = r.state.p := by
  unfold chargeCross; split <;> rfl
@[simp] theorem chargeCross_jammed (r : Resolved) : (chargeCross r).jammed = r.state.jammed := by
  unfold chargeCross; split <;> rfl
@[simp] theorem chargeCross_currentOpcode (r : Resolved) : (chargeCross r).currentOpcode = r.state.currentOpcode := by
  unfold chargeCross; split <;> rfl
@[simp] theorem chargeCross_memories (r : Resolved) : (chargeCross r).memories = r.state.memories := by
  unfold chargeCross; split <;> rfl
@[simp] theorem chargeCross_peripherals (r : Resolved) : (chargeCross r).peripherals = r.state.peripherals := by
  unfold chargeCross; split <;> rfl
@[simp] theorem chargeCross_notifications (r : Resolved) : (chargeCross r).notifications = r.state.notifications := by
  unfold chargeCross; split <;> rfl
@[simp] theorem chargeCross_total (r : Resolved) : (chargeCross r).total = r.state.total := by
  unfold chargeCross; split <;> rfl
@[simp] theorem chargeCross_irq (r : Resolved) : (chargeCross r).irq = r.state.irq := by
  unfold chargeCross; split <;> rfl
@[simp] theorem chargeCross_draws (r : Resolved) : (chargeCross r).draws = r.state.draws := by
  unfold chargeCross; split <;> rfl
@[simp] theorem chargeCross_cfg (r : Resolved) : (chargeCross r).cfg = r.state.cfg := by
  unfold chargeCross; split <;> rfl
theorem chargeCross_penalty (r : Resolved) :
    (chargeCross r).penalty = r.state.penalty + if r.crossed then 1 else 0 := by
  unfold chargeCross; split <;> rfl
@[simp] theorem route_chargeCross (r : Resolved) (b : Word) : route (chargeCross r) b = route r.state b :=
  route_congr (by simp) (by simp) b
@[simp] theorem cellOf_chargeCross (r : Resolved) (b : Word) : cellOf (chargeCross r) b = cellOf r.state b :=
  cellOf_congr (by simp) (by simp) b
@[simp] theorem peek_chargeCross (r : Resolved) (b : Word) : peek (chargeCross r) b = peek r.state b :=
  peek_congr (by simp) (by simp) b

/-! ### readOperand -/

@[simp] theorem readOperand_a (src : Source) (s : State) : (readOperand src s).2.a = s.a := by
  cases src <;> simp [readOperand]
@[simp] theorem readOperand_x (src : Source) (s : State) : (readOperand src s).2.x = s.x := by
  cases src <;> simp [readOperand]
@[simp] theorem readOperand_y (src : Source) (s : State) : (readOperand src s).2.y = s.y := by
  cases src <;> simp [readOperand]
@[simp] theorem readOperand_sp (src : Source) (s : State) : (readOperand src s).2.sp = s.sp := by
  cases src <;> simp [readOperand]
@[simp] theorem readOperand_pc (src : Source) (s : State) : (readOperand src s).2.pc = s.pc := by
  cases src <;> simp [readOperand]
@[simp] theorem readOperand_p (src : Source) (s : State) : (readOperand src s).2.p = s.p := by
  cases src <;> simp [readOperand]
@[simp] theorem readOperand_jammed (src : Source) (s : State) : (readOperand src s).2.jammed = s.jammed := by
  cases src <;> simp [readOperand]
@[simp] theorem readOperand_currentOpcode (src : Source) (s : State) : (readOperand src s).2.currentOpcode = s.currentOpcode := by
  cases src <;> simp [readOperand]
@[simp] theorem readOperand_memories (src : Source) (s : State) : (readOperand src s).2.memories = s.memories := by
  cases src <;> simp [readOperand]
@[simp] theorem readOperand_notifications (src : Source) (s : State) : (readOperand src s).2.notifications = s.notifications := by
  cases src <;> simp [readOperand]
@[simp] theorem readOperand_total (src : Source) (s : State) : (readOperand src s).2.total = s.total := by
  cases src <;> simp [readOperand]
@[simp] theorem readOperand_irq (src : Source) (s : State) : (readOperand src s).2.irq = s.irq := by
  cases src <;> simp [readOperand]
@[simp] theorem readOperand_cfg (src : Source) (s : State) : (readOperand src s).2.cfg = s.cfg := by
  cases src <;> simp [readOperand]
@[simp] theorem route_readOperand (src : Source) (s : State) (b : Word) :
    route (readOperand src s).2 b = route s b :=
  route_congr (by simp) (by simp) b
@[simp] theorem cellOf_readOperand (src : Source) (s : State) (b : Word) :
    cellOf (readOperand src s).2 b = cellOf s b :=
  cellOf_congr (by simp) (by simp) b
@[simp] theorem peek_readOperand (src : Source) (s : State) (b : Word) :
    peek (readOperand src s).2 b = peek s b :=
  peek_congr (by simp) (by simp) b

/-- A memory operand charges its page cross (spec 40_addressing_modes R126). -/
theorem readOperand_penalty (m : AddrMode) (s : State) :
    (readOperand (.memory m) s).2.penalty = s.penalty + if (resolve m s).crossed then 1 else 0 := by
  simp [readOperand, chargeCross_penalty]

/-! ### writeOperand -/

@[simp] theorem writeOperand_a (m : AddrMode) (v : Byte) (s : State) : (writeOperand m v s).a = s.a := by
  simp [writeOperand]
@[simp] theorem writeOperand_x (m : AddrMode) (v : Byte) (s : State) : (writeOperand m v s).x = s.x := by
  simp [writeOperand]
@[simp] theorem writeOperand_y (m : AddrMode) (v : Byte) (s : State) : (writeOperand m v s).y = s.y := by
  simp [writeOperand]
@[simp] theorem writeOperand_sp (m : AddrMode) (v : Byte) (s : State) : (writeOperand m v s).sp = s.sp := by
  simp [writeOperand]
@[simp] theorem writeOperand_pc (m : AddrMode) (v : Byte) (s : State) : (writeOperand m v s).pc = s.pc := by
  simp [writeOperand]
@[simp] theorem writeOperand_p (m : AddrMode) (v : Byte) (s : State) : (writeOperand m v s).p = s.p := by
  simp [writeOperand]
@[simp] theorem writeOperand_jammed (m : AddrMode) (v : Byte) (s : State) : (writeOperand m v s).jammed = s.jammed := by
  simp [writeOperand]
@[simp] theorem writeOperand_currentOpcode (m : AddrMode) (v : Byte) (s : State) : (writeOperand m v s).currentOpcode = s.currentOpcode := by
  simp [writeOperand]
@[simp] theorem writeOperand_penalty (m : AddrMode) (v : Byte) (s : State) : (writeOperand m v s).penalty = s.penalty := by
  simp [writeOperand]
@[simp] theorem writeOperand_total (m : AddrMode) (v : Byte) (s : State) : (writeOperand m v s).total = s.total := by
  simp [writeOperand]
@[simp] theorem writeOperand_irq (m : AddrMode) (v : Byte) (s : State) : (writeOperand m v s).irq = s.irq := by
  simp [writeOperand]
@[simp] theorem writeOperand_cfg (m : AddrMode) (v : Byte) (s : State) : (writeOperand m v s).cfg = s.cfg := by
  simp [writeOperand]

/-! ### modifyOperand -/

@[simp] theorem modifyOperand_x (dst : Dest) (f : Byte → Status → Byte × Status) (s : State) :
    (modifyOperand dst f s).2.x = s.x := by
  cases dst <;> simp [modifyOperand]
@[simp] theorem modifyOperand_y (dst : Dest) (f : Byte → Status → Byte × Status) (s : State) :
    (modifyOperand dst f s).2.y = s.y := by
  cases dst <;> simp [modifyOperand]
@[simp] theorem modifyOperand_sp (dst : Dest) (f : Byte → Status → Byte × Status) (s : State) :
    (modifyOperand dst f s).2.sp = s.sp := by
  cases dst <;> simp [modifyOperand]
@[simp] theorem modifyOperand_pc (dst : Dest) (f : Byte → Status → Byte × Status) (s : State) :
    (modifyOperand dst f s).2.pc = s.pc := by
  cases dst <;> simp [modifyOperand]
@[simp] theorem modifyOperand_jammed (dst : Dest) (f : Byte → Status → Byte × Status) (s : State) :
    (modifyOperand dst f s).2.jammed = s.jammed := by
  cases dst <;> simp [modifyOperand]
@[simp] theorem modifyOperand_currentOpcode (dst : Dest) (f : Byte → Status → Byte × Status) (s : State) :
    (modifyOperand dst f s).2.currentOpcode = s.currentOpcode := by
  cases dst <;> simp [modifyOperand]
@[simp] theorem modifyOperand_penalty (dst : Dest) (f : Byte → Status → Byte × Status) (s : State) :
    (modifyOperand dst f s).2.penalty = s.penalty := by
  cases dst <;> simp [modifyOperand]
@[simp] theorem modifyOperand_total (dst : Dest) (f : Byte → Status → Byte × Status) (s : State) :
    (modifyOperand dst f s).2.total = s.total := by
  cases dst <;> simp [modifyOperand]
@[simp] theorem modifyOperand_irq (dst : Dest) (f : Byte → Status → Byte × Status) (s : State) :
    (modifyOperand dst f s).2.irq = s.irq := by
  cases dst <;> simp [modifyOperand]
@[simp] theorem modifyOperand_cfg (dst : Dest) (f : Byte → Status → Byte × Status) (s : State) :
    (modifyOperand dst f s).2.cfg = s.cfg := by
  cases dst <;> simp [modifyOperand]

/-- A memory operand leaves A alone. -/
@[simp] theorem modifyOperand_memory_a (m : AddrMode) (f : Byte → Status → Byte × Status) (s : State) :
    (modifyOperand (.memory m) f s).2.a = s.a := by
  simp [modifyOperand]

/-! ### indirectTarget -/

@[simp] theorem indirectTarget_a (ptr : Word) (s : State) : ((indirectTarget ptr s).2).a = s.a := by simp [indirectTarget]
@[simp] theorem indirectTarget_x (ptr : Word) (s : State) : ((indirectTarget ptr s).2).x = s.x := by simp [indirectTarget]
@[simp] theorem indirectTarget_y (ptr : Word) (s : State) : ((indirectTarget ptr s).2).y = s.y := by simp [indirectTarget]
@[simp] theorem indirectTarget_sp (ptr : Word) (s : State) : ((indirectTarget ptr s).2).sp = s.sp := by simp [indirectTarget]
@[simp] theorem indirectTarget_pc (ptr : Word) (s : State) : ((indirectTarget ptr s).2).pc = s.pc := by simp [indirectTarget]
@[simp] theorem indirectTarget_p (ptr : Word) (s : State) : ((indirectTarget ptr s).2).p = s.p := by simp [indirectTarget]
@[simp] theorem indirectTarget_jammed (ptr : Word) (s : State) : ((indirectTarget ptr s).2).jammed = s.jammed := by simp [indirectTarget]
@[simp] theorem indirectTarget_currentOpcode (ptr : Word) (s : State) : ((indirectTarget ptr s).2).currentOpcode = s.currentOpcode := by simp [indirectTarget]
@[simp] theorem indirectTarget_penalty (ptr : Word) (s : State) : ((indirectTarget ptr s).2).penalty = s.penalty := by simp [indirectTarget]
@[simp] theorem indirectTarget_memories (ptr : Word) (s : State) : ((indirectTarget ptr s).2).memories = s.memories := by simp [indirectTarget]
@[simp] theorem indirectTarget_notifications (ptr : Word) (s : State) : ((indirectTarget ptr s).2).notifications = s.notifications := by simp [indirectTarget]
@[simp] theorem indirectTarget_total (ptr : Word) (s : State) : ((indirectTarget ptr s).2).total = s.total := by simp [indirectTarget]
@[simp] theorem indirectTarget_irq (ptr : Word) (s : State) : ((indirectTarget ptr s).2).irq = s.irq := by simp [indirectTarget]
@[simp] theorem indirectTarget_cfg (ptr : Word) (s : State) : ((indirectTarget ptr s).2).cfg = s.cfg := by simp [indirectTarget]
@[simp] theorem route_indirectTarget (ptr : Word) (s : State) (b : Word) : route ((indirectTarget ptr s).2) b = route s b :=
  route_congr (by simp) (by simp) b
@[simp] theorem cellOf_indirectTarget (ptr : Word) (s : State) (b : Word) : cellOf ((indirectTarget ptr s).2) b = cellOf s b :=
  cellOf_congr (by simp) (by simp) b
@[simp] theorem peek_indirectTarget (ptr : Word) (s : State) (b : Word) : peek ((indirectTarget ptr s).2) b = peek s b :=
  peek_congr (by simp) (by simp) b

/-! ### Evolution -/

@[simp] theorem evolves_setA (s t : State) (v : Byte) : s.Evolves (t.setA v) ↔ s.Evolves t :=
  ⟨fun h => h.trans (.of_eq rfl rfl rfl rfl rfl), fun h => h.trans (.of_eq rfl rfl rfl rfl rfl)⟩
@[simp] theorem evolves_setX (s t : State) (v : Byte) : s.Evolves (t.setX v) ↔ s.Evolves t :=
  ⟨fun h => h.trans (.of_eq rfl rfl rfl rfl rfl), fun h => h.trans (.of_eq rfl rfl rfl rfl rfl)⟩
@[simp] theorem evolves_setY (s t : State) (v : Byte) : s.Evolves (t.setY v) ↔ s.Evolves t :=
  ⟨fun h => h.trans (.of_eq rfl rfl rfl rfl rfl), fun h => h.trans (.of_eq rfl rfl rfl rfl rfl)⟩
@[simp] theorem evolves_setSp (s t : State) (v : Byte) : s.Evolves (t.setSp v) ↔ s.Evolves t :=
  ⟨fun h => h.trans (.of_eq rfl rfl rfl rfl rfl), fun h => h.trans (.of_eq rfl rfl rfl rfl rfl)⟩
@[simp] theorem evolves_setPc (s t : State) (w : Word) : s.Evolves (t.setPc w) ↔ s.Evolves t :=
  ⟨fun h => h.trans (.of_eq rfl rfl rfl rfl rfl), fun h => h.trans (.of_eq rfl rfl rfl rfl rfl)⟩
@[simp] theorem evolves_setP (s t : State) (q : Status) : s.Evolves (t.setP q) ↔ s.Evolves t :=
  ⟨fun h => h.trans (.of_eq rfl rfl rfl rfl rfl), fun h => h.trans (.of_eq rfl rfl rfl rfl rfl)⟩
@[simp] theorem evolves_setCurrentOpcode (s t : State) (op : Byte) : s.Evolves (t.setCurrentOpcode op) ↔ s.Evolves t :=
  ⟨fun h => h.trans (.of_eq rfl rfl rfl rfl rfl), fun h => h.trans (.of_eq rfl rfl rfl rfl rfl)⟩
@[simp] theorem evolves_setPenalty (s t : State) (n : Nat) : s.Evolves (t.setPenalty n) ↔ s.Evolves t :=
  ⟨fun h => h.trans (.of_eq rfl rfl rfl rfl rfl), fun h => h.trans (.of_eq rfl rfl rfl rfl rfl)⟩
@[simp] theorem evolves_charge (s t : State) (n : Nat) : s.Evolves (t.charge n) ↔ s.Evolves t :=
  ⟨fun h => h.trans (.of_eq rfl rfl rfl rfl rfl), fun h => h.trans (.of_eq rfl rfl rfl rfl rfl)⟩
@[simp] theorem evolves_setNZ (s t : State) (v : Byte) : s.Evolves (t.setNZ v) ↔ s.Evolves t :=
  ⟨fun h => h.trans (.of_eq rfl rfl rfl rfl rfl), fun h => h.trans (.of_eq rfl rfl rfl rfl rfl)⟩

@[simp] theorem evolves_halt (s t : State) : s.Evolves t.halt ↔ s.Evolves t :=
  ⟨fun h => h.trans (.of_eq rfl rfl rfl rfl rfl), fun h => h.trans (.of_eq rfl rfl rfl rfl rfl)⟩

theorem State.Evolves.load {s t : State} (h : s.Evolves t) (addr : Word) : s.Evolves (load t addr).2 :=
  h.trans (load_evolves t addr)

theorem State.Evolves.store {s t : State} (h : s.Evolves t) (addr : Word) (v : Byte) : s.Evolves (store t addr v) :=
  h.trans (store_evolves t addr v)

theorem State.Evolves.loadWord {s t : State} (h : s.Evolves t) (addr : Word) : s.Evolves (loadWord t addr).2 :=
  (h.load addr).load (addr + 1)

theorem State.Evolves.fetchByte {s t : State} (h : s.Evolves t) : s.Evolves (fetchByte t).2 := by
  simpa [Machine.fetchByte] using h.load t.pc

theorem State.Evolves.fetchWord {s t : State} (h : s.Evolves t) : s.Evolves (fetchWord t).2 :=
  h.fetchByte.fetchByte

theorem State.Evolves.push {s t : State} (h : s.Evolves t) (v : Byte) : s.Evolves (push t v) := by
  simpa [Machine.push] using h.store (stackAddr t.sp) v

theorem State.Evolves.pull {s t : State} (h : s.Evolves t) : s.Evolves (pull t).2 :=
  ((evolves_setSp s t _).mpr h).load _

theorem State.Evolves.zeroPagePointer {s t : State} (h : s.Evolves t) (z : Byte) : s.Evolves (zeroPagePointer t z).2 :=
  (h.load (zext z)).load (zext (z + 1))

theorem State.Evolves.indirectTarget {s t : State} (h : s.Evolves t) (ptr : Word) : s.Evolves (indirectTarget ptr t).2 :=
  (h.load ptr).load _

theorem State.Evolves.resolve {s t : State} (h : s.Evolves t) (m : AddrMode) : s.Evolves (resolve m t).state := by
  cases m <;> first | exact h | exact h.zeroPagePointer _

theorem State.Evolves.chargeCross {s : State} {r : Resolved} (h : s.Evolves r.state) : s.Evolves (chargeCross r) := by
  unfold Machine.chargeCross
  split <;> simpa using h

theorem State.Evolves.readOperand {s t : State} (h : s.Evolves t) (src : Source) : s.Evolves (readOperand src t).2 := by
  cases src with
  | immediate n => exact h
  | memory m => exact ((h.resolve m).chargeCross).load _

theorem State.Evolves.writeOperand {s t : State} (h : s.Evolves t) (m : AddrMode) (v : Byte) :
    s.Evolves (writeOperand m v t) :=
  (h.resolve m).store _ _

theorem State.Evolves.modifyOperand {s t : State} (h : s.Evolves t) (dst : Dest)
    (f : Byte → Status → Byte × Status) : s.Evolves (modifyOperand dst f t).2 := by
  cases dst with
  | accumulator => simpa [Machine.modifyOperand] using h
  | memory m => exact State.Evolves.store ((evolves_setP s _ _).mpr ((h.resolve m).load _)) _ _

theorem State.Evolves.chargeDecimal {s t : State} (h : s.Evolves t) : s.Evolves t.chargeDecimal := by
  unfold State.chargeDecimal
  split <;> simpa using h

theorem State.Evolves.add {s t : State} (h : s.Evolves t) (m : Byte) : s.Evolves (t.add m) := by
  simpa [State.add] using h.chargeDecimal

theorem State.Evolves.sub {s t : State} (h : s.Evolves t) (m : Byte) : s.Evolves (t.sub m) := by
  simpa [State.sub] using h.chargeDecimal

theorem State.Evolves.interruptEntry {s t : State} (h : s.Evolves t) (b : Bool) : s.Evolves (interruptEntry b t) := by
  simp only [Machine.interruptEntry, evolves_setPc]
  exact State.Evolves.loadWord ((evolves_setP s _ _).mpr (((h.push _).push _).push _)) _

theorem State.Evolves.returnFromInterrupt {s t : State} (h : s.Evolves t) : s.Evolves (returnFromInterrupt t) := by
  simp only [Machine.returnFromInterrupt, evolves_setPc]
  exact State.Evolves.pull (State.Evolves.pull ((evolves_setP s _ _).mpr h.pull))

/-! ### Interrupt entry and return: the registers (spec 60_exceptions R271, 45_control R224) -/

@[simp] theorem interruptEntry_a (b : Bool) (s : State) : (interruptEntry b s).a = s.a := by
  simp [interruptEntry]
@[simp] theorem interruptEntry_x (b : Bool) (s : State) : (interruptEntry b s).x = s.x := by
  simp [interruptEntry]
@[simp] theorem interruptEntry_y (b : Bool) (s : State) : (interruptEntry b s).y = s.y := by
  simp [interruptEntry]
@[simp] theorem interruptEntry_jammed (b : Bool) (s : State) : (interruptEntry b s).jammed = s.jammed := by
  simp [interruptEntry]
@[simp] theorem interruptEntry_currentOpcode (b : Bool) (s : State) : (interruptEntry b s).currentOpcode = s.currentOpcode := by
  simp [interruptEntry]
@[simp] theorem interruptEntry_penalty (b : Bool) (s : State) : (interruptEntry b s).penalty = s.penalty := by
  simp [interruptEntry]
@[simp] theorem interruptEntry_total (b : Bool) (s : State) : (interruptEntry b s).total = s.total := by
  simp [interruptEntry]
@[simp] theorem interruptEntry_irq (b : Bool) (s : State) : (interruptEntry b s).irq = s.irq := by
  simp [interruptEntry]
@[simp] theorem interruptEntry_cfg (b : Bool) (s : State) : (interruptEntry b s).cfg = s.cfg := by
  simp [interruptEntry]
@[simp] theorem interruptEntry_sp (b : Bool) (s : State) : (interruptEntry b s).sp = s.sp - 1 - 1 - 1 := by
  simp [interruptEntry]
@[simp] theorem interruptEntry_p (b : Bool) (s : State) : (interruptEntry b s).p = { s.p with i := true } := by
  simp [interruptEntry]
@[simp] theorem returnFromInterrupt_a (s : State) : (returnFromInterrupt s).a = s.a := by
  simp [returnFromInterrupt]
@[simp] theorem returnFromInterrupt_x (s : State) : (returnFromInterrupt s).x = s.x := by
  simp [returnFromInterrupt]
@[simp] theorem returnFromInterrupt_y (s : State) : (returnFromInterrupt s).y = s.y := by
  simp [returnFromInterrupt]
@[simp] theorem returnFromInterrupt_jammed (s : State) : (returnFromInterrupt s).jammed = s.jammed := by
  simp [returnFromInterrupt]
@[simp] theorem returnFromInterrupt_currentOpcode (s : State) : (returnFromInterrupt s).currentOpcode = s.currentOpcode := by
  simp [returnFromInterrupt]
@[simp] theorem returnFromInterrupt_penalty (s : State) : (returnFromInterrupt s).penalty = s.penalty := by
  simp [returnFromInterrupt]
@[simp] theorem returnFromInterrupt_memories (s : State) : (returnFromInterrupt s).memories = s.memories := by
  simp [returnFromInterrupt]
@[simp] theorem returnFromInterrupt_notifications (s : State) : (returnFromInterrupt s).notifications = s.notifications := by
  simp [returnFromInterrupt]
@[simp] theorem returnFromInterrupt_total (s : State) : (returnFromInterrupt s).total = s.total := by
  simp [returnFromInterrupt]
@[simp] theorem returnFromInterrupt_irq (s : State) : (returnFromInterrupt s).irq = s.irq := by
  simp [returnFromInterrupt]
@[simp] theorem returnFromInterrupt_cfg (s : State) : (returnFromInterrupt s).cfg = s.cfg := by
  simp [returnFromInterrupt]
@[simp] theorem returnFromInterrupt_sp (s : State) : (returnFromInterrupt s).sp = s.sp + 1 + 1 + 1 := by
  simp [returnFromInterrupt]
@[simp] theorem returnFromInterrupt_p (s : State) : (returnFromInterrupt s).p = Status.ofPulled (pull s).1 := by
  simp [returnFromInterrupt]

/-! ### Adding and subtracting: everything but A, P and the penalty (spec 43_alu R171, R172) -/

@[simp] theorem add_x (s : State) (m : Byte) : (s.add m).x = s.x := by
  unfold State.add State.chargeDecimal; split <;> rfl
@[simp] theorem add_y (s : State) (m : Byte) : (s.add m).y = s.y := by
  unfold State.add State.chargeDecimal; split <;> rfl
@[simp] theorem add_sp (s : State) (m : Byte) : (s.add m).sp = s.sp := by
  unfold State.add State.chargeDecimal; split <;> rfl
@[simp] theorem add_pc (s : State) (m : Byte) : (s.add m).pc = s.pc := by
  unfold State.add State.chargeDecimal; split <;> rfl
@[simp] theorem add_jammed (s : State) (m : Byte) : (s.add m).jammed = s.jammed := by
  unfold State.add State.chargeDecimal; split <;> rfl
@[simp] theorem add_currentOpcode (s : State) (m : Byte) : (s.add m).currentOpcode = s.currentOpcode := by
  unfold State.add State.chargeDecimal; split <;> rfl
@[simp] theorem add_memories (s : State) (m : Byte) : (s.add m).memories = s.memories := by
  unfold State.add State.chargeDecimal; split <;> rfl
@[simp] theorem add_peripherals (s : State) (m : Byte) : (s.add m).peripherals = s.peripherals := by
  unfold State.add State.chargeDecimal; split <;> rfl
@[simp] theorem add_notifications (s : State) (m : Byte) : (s.add m).notifications = s.notifications := by
  unfold State.add State.chargeDecimal; split <;> rfl
@[simp] theorem add_total (s : State) (m : Byte) : (s.add m).total = s.total := by
  unfold State.add State.chargeDecimal; split <;> rfl
@[simp] theorem add_irq (s : State) (m : Byte) : (s.add m).irq = s.irq := by
  unfold State.add State.chargeDecimal; split <;> rfl
@[simp] theorem add_draws (s : State) (m : Byte) : (s.add m).draws = s.draws := by
  unfold State.add State.chargeDecimal; split <;> rfl
@[simp] theorem add_cfg (s : State) (m : Byte) : (s.add m).cfg = s.cfg := by
  unfold State.add State.chargeDecimal; split <;> rfl
@[simp] theorem add_a (s : State) (m : Byte) : (s.add m).a = (addCore s.a m s.p).1 := rfl
@[simp] theorem add_p (s : State) (m : Byte) : (s.add m).p = (addCore s.a m s.p).2 := rfl
theorem add_penalty (s : State) (m : Byte) : (s.add m).penalty = s.penalty + if s.p.d then 1 else 0 := by
  unfold State.add State.chargeDecimal; split <;> rfl
@[simp] theorem sub_x (s : State) (m : Byte) : (s.sub m).x = s.x := by
  unfold State.sub State.chargeDecimal; split <;> rfl
@[simp] theorem sub_y (s : State) (m : Byte) : (s.sub m).y = s.y := by
  unfold State.sub State.chargeDecimal; split <;> rfl
@[simp] theorem sub_sp (s : State) (m : Byte) : (s.sub m).sp = s.sp := by
  unfold State.sub State.chargeDecimal; split <;> rfl
@[simp] theorem sub_pc (s : State) (m : Byte) : (s.sub m).pc = s.pc := by
  unfold State.sub State.chargeDecimal; split <;> rfl
@[simp] theorem sub_jammed (s : State) (m : Byte) : (s.sub m).jammed = s.jammed := by
  unfold State.sub State.chargeDecimal; split <;> rfl
@[simp] theorem sub_currentOpcode (s : State) (m : Byte) : (s.sub m).currentOpcode = s.currentOpcode := by
  unfold State.sub State.chargeDecimal; split <;> rfl
@[simp] theorem sub_memories (s : State) (m : Byte) : (s.sub m).memories = s.memories := by
  unfold State.sub State.chargeDecimal; split <;> rfl
@[simp] theorem sub_peripherals (s : State) (m : Byte) : (s.sub m).peripherals = s.peripherals := by
  unfold State.sub State.chargeDecimal; split <;> rfl
@[simp] theorem sub_notifications (s : State) (m : Byte) : (s.sub m).notifications = s.notifications := by
  unfold State.sub State.chargeDecimal; split <;> rfl
@[simp] theorem sub_total (s : State) (m : Byte) : (s.sub m).total = s.total := by
  unfold State.sub State.chargeDecimal; split <;> rfl
@[simp] theorem sub_irq (s : State) (m : Byte) : (s.sub m).irq = s.irq := by
  unfold State.sub State.chargeDecimal; split <;> rfl
@[simp] theorem sub_draws (s : State) (m : Byte) : (s.sub m).draws = s.draws := by
  unfold State.sub State.chargeDecimal; split <;> rfl
@[simp] theorem sub_cfg (s : State) (m : Byte) : (s.sub m).cfg = s.cfg := by
  unfold State.sub State.chargeDecimal; split <;> rfl
@[simp] theorem sub_a (s : State) (m : Byte) : (s.sub m).a = (subCore s.a m s.p).1 := rfl
@[simp] theorem sub_p (s : State) (m : Byte) : (s.sub m).p = (subCore s.a m s.p).2 := rfl
theorem sub_penalty (s : State) (m : Byte) : (s.sub m).penalty = s.penalty + if s.p.d then 1 else 0 := by
  unfold State.sub State.chargeDecimal; split <;> rfl

end Sys2Proof.Machine
end

