-- ==== Sys2Proof/Laws/Exec.lean ====
section
/-! SUPPORT. The inversion lemma of exec: the 256 arms run one of the shared meanings below, each under its own opcodes.  A
fact about every instruction is proved by cases on `exec_ran`, one case per meaning, and not by cases on `Instr`. -/

namespace Sys2Proof.Machine

/-- What exec can answer for an instruction of opcode `op` at `s`. -/
inductive Ran (op : Byte) (s : State) : Host.Outcome State Fault Refusal → Prop where
  | loadA (src : Source) (h : op ∈ [0xA1, 0xA5, 0xA9, 0xAD, 0xB1, 0xB5, 0xB9, 0xBD]) :
      Ran op s (.next (loadA src s))
  | loadX (src : Source) (h : op ∈ [0xA2, 0xA6, 0xAE, 0xB6, 0xBE]) :
      Ran op s (.next (loadX src s))
  | loadY (src : Source) (h : op ∈ [0xA0, 0xA4, 0xAC, 0xB4, 0xBC]) :
      Ran op s (.next (loadY src s))
  | loadAX (src : Source) (h : op ∈ [0xA3, 0xA7, 0xAF, 0xB3, 0xB7, 0xBF]) :
      Ran op s (.next (loadAX src s))
  | addWithCarry (src : Source) (h : op ∈ [0x61, 0x65, 0x69, 0x6D, 0x71, 0x75, 0x79, 0x7D]) :
      Ran op s (.next (addWithCarry src s))
  | subtractWithBorrow (src : Source) (h : op ∈ [0xE1, 0xE5, 0xE9, 0xED, 0xF1, 0xF5, 0xF9, 0xFD]) :
      Ran op s (.next (subtractWithBorrow src s))
  | andA (src : Source) (h : op ∈ [0x21, 0x25, 0x29, 0x2D, 0x31, 0x35, 0x39, 0x3D]) :
      Ran op s (.next (andA src s))
  | orA (src : Source) (h : op ∈ [0x01, 0x05, 0x09, 0x0D, 0x11, 0x15, 0x19, 0x1D]) :
      Ran op s (.next (orA src s))
  | eorA (src : Source) (h : op ∈ [0x41, 0x45, 0x49, 0x4D, 0x51, 0x55, 0x59, 0x5D]) :
      Ran op s (.next (eorA src s))
  | compareA (src : Source) (h : op ∈ [0xC1, 0xC5, 0xC9, 0xCD, 0xD1, 0xD5, 0xD9, 0xDD]) :
      Ran op s (.next (compareA src s))
  | compareX (src : Source) (h : op ∈ [0xE0, 0xE4, 0xEC]) :
      Ran op s (.next (compareX src s))
  | compareY (src : Source) (h : op ∈ [0xC0, 0xC4, 0xCC]) :
      Ran op s (.next (compareY src s))
  | bitTest (src : Source) (h : op ∈ [0x24, 0x2C]) :
      Ran op s (.next (bitTest src s))
  | storeA (m : AddrMode) (h : op ∈ [0x81, 0x85, 0x8D, 0x91, 0x95, 0x99, 0x9D]) :
      Ran op s (.next (storeA m s))
  | storeX (m : AddrMode) (h : op ∈ [0x86, 0x8E, 0x96]) :
      Ran op s (.next (storeX m s))
  | storeY (m : AddrMode) (h : op ∈ [0x84, 0x8C, 0x94]) :
      Ran op s (.next (storeY m s))
  | storeAX (m : AddrMode) (h : op ∈ [0x83, 0x87, 0x8F, 0x97]) :
      Ran op s (.next (storeAX m s))
  | shiftLeftOr (m : AddrMode) (h : op ∈ [0x03, 0x07, 0x0F, 0x13, 0x17, 0x1B, 0x1F]) :
      Ran op s (.next (shiftLeftOr m s))
  | rotateLeftAnd (m : AddrMode) (h : op ∈ [0x23, 0x27, 0x2F, 0x33, 0x37, 0x3B, 0x3F]) :
      Ran op s (.next (rotateLeftAnd m s))
  | shiftRightEor (m : AddrMode) (h : op ∈ [0x43, 0x47, 0x4F, 0x53, 0x57, 0x5B, 0x5F]) :
      Ran op s (.next (shiftRightEor m s))
  | rotateRightAdd (m : AddrMode) (h : op ∈ [0x63, 0x67, 0x6F, 0x73, 0x77, 0x7B, 0x7F]) :
      Ran op s (.next (rotateRightAdd m s))
  | decrementCompare (m : AddrMode) (h : op ∈ [0xC3, 0xC7, 0xCF, 0xD3, 0xD7, 0xDB, 0xDF]) :
      Ran op s (.next (decrementCompare m s))
  | incrementSubtract (m : AddrMode) (h : op ∈ [0xE3, 0xE7, 0xEF, 0xF3, 0xF7, 0xFB, 0xFF]) :
      Ran op s (.next (incrementSubtract m s))
  | incrementMemory (m : AddrMode) (h : op ∈ [0xE6, 0xEE, 0xF6, 0xFE]) :
      Ran op s (.next (incrementMemory (.memory m) s))
  | decrementMemory (m : AddrMode) (h : op ∈ [0xC6, 0xCE, 0xD6, 0xDE]) :
      Ran op s (.next (decrementMemory (.memory m) s))
  | shiftLeft (m : AddrMode) (h : op ∈ [0x06, 0x0E, 0x16, 0x1E]) :
      Ran op s (.next (shiftLeft (.memory m) s))
  | shiftLeftAccumulator (h : op ∈ [0x0A]) :
      Ran op s (.next (shiftLeft .accumulator s))
  | shiftRight (m : AddrMode) (h : op ∈ [0x46, 0x4E, 0x56, 0x5E]) :
      Ran op s (.next (shiftRight (.memory m) s))
  | shiftRightAccumulator (h : op ∈ [0x4A]) :
      Ran op s (.next (shiftRight .accumulator s))
  | rotateLeft (m : AddrMode) (h : op ∈ [0x26, 0x2E, 0x36, 0x3E]) :
      Ran op s (.next (rotateLeft (.memory m) s))
  | rotateLeftAccumulator (h : op ∈ [0x2A]) :
      Ran op s (.next (rotateLeft .accumulator s))
  | rotateRight (m : AddrMode) (h : op ∈ [0x66, 0x6E, 0x76, 0x7E]) :
      Ran op s (.next (rotateRight (.memory m) s))
  | rotateRightAccumulator (h : op ∈ [0x6A]) :
      Ran op s (.next (rotateRight .accumulator s))
  | nopAddressed (m : AddrMode) (h : op ∈ [0x04, 0x0C, 0x14, 0x1C, 0x34, 0x3C, 0x44, 0x54, 0x5C, 0x64, 0x74, 0x7C, 0xD4, 0xDC, 0xF4, 0xFC]) :
      Ran op s (.next (nopAddressed m s))
  | nopImplied (h : op ∈ [0x1A, 0x3A, 0x5A, 0x7A, 0xDA, 0xEA, 0xFA]) :
      Ran op s (.next s)
  | nopImmediate (h : op ∈ [0x80, 0x82, 0x89, 0xC2, 0xE2]) :
      Ran op s (.next (skipByte s))
  | jam (h : op ∈ [0x02, 0x12, 0x22, 0x32, 0x42, 0x52, 0x62, 0x72, 0x92, 0xB2, 0xD2, 0xF2]) :
      Ran op s (.next (Machine.jam s))
  | unstable (m : AddrMode) (h : op ∈ [0x93, 0x9B, 0x9C, 0x9E, 0x9F, 0xBB]) :
      Ran op s (Machine.unstable s.cfg (resolve m s).state)
  | unstableImmediate (h : op ∈ [0x8B, 0xAB]) :
      Ran op s (Machine.unstable s.cfg (skipByte s))
  | bpl (d : Byte) (h : op ∈ [0x10]) :
      Ran op s (.next (branch (!s.p.n) d s))
  | bmi (d : Byte) (h : op ∈ [0x30]) :
      Ran op s (.next (branch (s.p.n) d s))
  | bvc (d : Byte) (h : op ∈ [0x50]) :
      Ran op s (.next (branch (!s.p.v) d s))
  | bvs (d : Byte) (h : op ∈ [0x70]) :
      Ran op s (.next (branch (s.p.v) d s))
  | bcc (d : Byte) (h : op ∈ [0x90]) :
      Ran op s (.next (branch (!s.p.c) d s))
  | bcs (d : Byte) (h : op ∈ [0xB0]) :
      Ran op s (.next (branch (s.p.c) d s))
  | bne (d : Byte) (h : op ∈ [0xD0]) :
      Ran op s (.next (branch (!s.p.z) d s))
  | beq (d : Byte) (h : op ∈ [0xF0]) :
      Ran op s (.next (branch (s.p.z) d s))
  | anc (n : Byte) (h : op ∈ [0x0B, 0x2B]) :
      Ran op s (.next (immediateCore ancCore n s))
  | alr (n : Byte) (h : op ∈ [0x4B]) :
      Ran op s (.next (immediateCore alrCore n s))
  | arr (n : Byte) (h : op ∈ [0x6B]) :
      Ran op s (.next (immediateCore arrCore n s))
  | tax (h : op ∈ [0xAA]) :
      Ran op s (.next ((s.setX s.a).setNZ s.a))
  | tay (h : op ∈ [0xA8]) :
      Ran op s (.next ((s.setY s.a).setNZ s.a))
  | txa (h : op ∈ [0x8A]) :
      Ran op s (.next ((s.setA s.x).setNZ s.x))
  | tya (h : op ∈ [0x98]) :
      Ran op s (.next ((s.setA s.y).setNZ s.y))
  | tsx (h : op ∈ [0xBA]) :
      Ran op s (.next ((s.setX s.sp).setNZ s.sp))
  | txs (h : op ∈ [0x9A]) :
      Ran op s (.next (s.setSp s.x))
  | pha (h : op ∈ [0x48]) :
      Ran op s (.next (push s s.a))
  | php (h : op ∈ [0x08]) :
      Ran op s (.next (push s (s.p.toByte ||| 0x30)))
  | pla (h : op ∈ [0x68]) :
      Ran op s (.next (((pull s).2.setA (pull s).1).setNZ (pull s).1))
  | plp (h : op ∈ [0x28]) :
      Ran op s (.next ((pull s).2.setP (Status.ofPulled (pull s).1)))
  | inx (h : op ∈ [0xE8]) :
      Ran op s (.next ((s.setX (s.x + 1)).setNZ (s.x + 1)))
  | iny (h : op ∈ [0xC8]) :
      Ran op s (.next ((s.setY (s.y + 1)).setNZ (s.y + 1)))
  | dex (h : op ∈ [0xCA]) :
      Ran op s (.next ((s.setX (s.x - 1)).setNZ (s.x - 1)))
  | dey (h : op ∈ [0x88]) :
      Ran op s (.next ((s.setY (s.y - 1)).setNZ (s.y - 1)))
  | clc (h : op ∈ [0x18]) :
      Ran op s (.next (s.setP { s.p with c := false }))
  | sec (h : op ∈ [0x38]) :
      Ran op s (.next (s.setP { s.p with c := true }))
  | cli (h : op ∈ [0x58]) :
      Ran op s (.next (s.setP { s.p with i := false }))
  | sei (h : op ∈ [0x78]) :
      Ran op s (.next (s.setP { s.p with i := true }))
  | cld (h : op ∈ [0xD8]) :
      Ran op s (.next (s.setP { s.p with d := false }))
  | sed (h : op ∈ [0xF8]) :
      Ran op s (.next (s.setP { s.p with d := true }))
  | clv (h : op ∈ [0xB8]) :
      Ran op s (.next (s.setP { s.p with v := false }))
  | rts (h : op ∈ [0x60]) :
      Ran op s (.next ((pull (pull s).2).2.setPc (mkWord (pull (pull s).2).1 (pull s).1 + 1)))
  | brk (h : op ∈ [0x00]) :
      Ran op s (.next (interruptEntry true (skipByte s)))
  | rti (h : op ∈ [0x40]) :
      Ran op s (.next (returnFromInterrupt s))
  | jmpAbs (nn : Word) (h : op ∈ [0x4C]) :
      Ran op s (.next (s.setPc nn))
  | jmpInd (ptr : Word) (h : op ∈ [0x6C]) :
      Ran op s (.next ((indirectTarget ptr s).2.setPc (indirectTarget ptr s).1))
  | jsr (nn : Word) (h : op ∈ [0x20]) :
      Ran op s (.next ((push (push s (hiByte (s.pc - 1))) (loByte (s.pc - 1))).setPc nn))
  | sbx (n : Byte) (h : op ∈ [0xCB]) :
      Ran op s (.next ((s.setX (sbxCore s.a s.x n s.p).1).setP (sbxCore s.a s.x n s.p).2))
  | usbc (n : Byte) (h : op ∈ [0xEB]) :
      Ran op s (.next (s.sub n))

/-- Every arm of exec is one of the shared meanings. -/
theorem exec_ran (i : Instr) (s : State) : Ran i.opcode s (exec i s) := by
  cases i with
  | ldaIndX n => exact .loadA (.memory (.indexedIndirect n)) (show (0xA1 : Byte) ∈ _ by decide)
  | ldaZp n => exact .loadA (.memory (.zeroPage n)) (show (0xA5 : Byte) ∈ _ by decide)
  | ldaImm n => exact .loadA (.immediate n) (show (0xA9 : Byte) ∈ _ by decide)
  | ldaAbs nn => exact .loadA (.memory (.absolute nn)) (show (0xAD : Byte) ∈ _ by decide)
  | ldaIndY n => exact .loadA (.memory (.indirectIndexed n)) (show (0xB1 : Byte) ∈ _ by decide)
  | ldaZpX n => exact .loadA (.memory (.zeroPageX n)) (show (0xB5 : Byte) ∈ _ by decide)
  | ldaAbsY nn => exact .loadA (.memory (.absoluteY nn)) (show (0xB9 : Byte) ∈ _ by decide)
  | ldaAbsX nn => exact .loadA (.memory (.absoluteX nn)) (show (0xBD : Byte) ∈ _ by decide)
  | ldxImm n => exact .loadX (.immediate n) (show (0xA2 : Byte) ∈ _ by decide)
  | ldxZp n => exact .loadX (.memory (.zeroPage n)) (show (0xA6 : Byte) ∈ _ by decide)
  | ldxAbs nn => exact .loadX (.memory (.absolute nn)) (show (0xAE : Byte) ∈ _ by decide)
  | ldxZpY n => exact .loadX (.memory (.zeroPageY n)) (show (0xB6 : Byte) ∈ _ by decide)
  | ldxAbsY nn => exact .loadX (.memory (.absoluteY nn)) (show (0xBE : Byte) ∈ _ by decide)
  | ldyImm n => exact .loadY (.immediate n) (show (0xA0 : Byte) ∈ _ by decide)
  | ldyZp n => exact .loadY (.memory (.zeroPage n)) (show (0xA4 : Byte) ∈ _ by decide)
  | ldyAbs nn => exact .loadY (.memory (.absolute nn)) (show (0xAC : Byte) ∈ _ by decide)
  | ldyZpX n => exact .loadY (.memory (.zeroPageX n)) (show (0xB4 : Byte) ∈ _ by decide)
  | ldyAbsX nn => exact .loadY (.memory (.absoluteX nn)) (show (0xBC : Byte) ∈ _ by decide)
  | staIndX n => exact .storeA (.indexedIndirect n) (show (0x81 : Byte) ∈ _ by decide)
  | staZp n => exact .storeA (.zeroPage n) (show (0x85 : Byte) ∈ _ by decide)
  | staAbs nn => exact .storeA (.absolute nn) (show (0x8D : Byte) ∈ _ by decide)
  | staIndY n => exact .storeA (.indirectIndexed n) (show (0x91 : Byte) ∈ _ by decide)
  | staZpX n => exact .storeA (.zeroPageX n) (show (0x95 : Byte) ∈ _ by decide)
  | staAbsY nn => exact .storeA (.absoluteY nn) (show (0x99 : Byte) ∈ _ by decide)
  | staAbsX nn => exact .storeA (.absoluteX nn) (show (0x9D : Byte) ∈ _ by decide)
  | stxZp n => exact .storeX (.zeroPage n) (show (0x86 : Byte) ∈ _ by decide)
  | stxAbs nn => exact .storeX (.absolute nn) (show (0x8E : Byte) ∈ _ by decide)
  | stxZpY n => exact .storeX (.zeroPageY n) (show (0x96 : Byte) ∈ _ by decide)
  | styZp n => exact .storeY (.zeroPage n) (show (0x84 : Byte) ∈ _ by decide)
  | styAbs nn => exact .storeY (.absolute nn) (show (0x8C : Byte) ∈ _ by decide)
  | styZpX n => exact .storeY (.zeroPageX n) (show (0x94 : Byte) ∈ _ by decide)
  | tax => exact .tax (show (0xAA : Byte) ∈ _ by decide)
  | tay => exact .tay (show (0xA8 : Byte) ∈ _ by decide)
  | txa => exact .txa (show (0x8A : Byte) ∈ _ by decide)
  | tya => exact .tya (show (0x98 : Byte) ∈ _ by decide)
  | tsx => exact .tsx (show (0xBA : Byte) ∈ _ by decide)
  | txs => exact .txs (show (0x9A : Byte) ∈ _ by decide)
  | pha => exact .pha (show (0x48 : Byte) ∈ _ by decide)
  | php => exact .php (show (0x08 : Byte) ∈ _ by decide)
  | pla => exact .pla (show (0x68 : Byte) ∈ _ by decide)
  | plp => exact .plp (show (0x28 : Byte) ∈ _ by decide)
  | adcIndX n => exact .addWithCarry (.memory (.indexedIndirect n)) (show (0x61 : Byte) ∈ _ by decide)
  | adcZp n => exact .addWithCarry (.memory (.zeroPage n)) (show (0x65 : Byte) ∈ _ by decide)
  | adcImm n => exact .addWithCarry (.immediate n) (show (0x69 : Byte) ∈ _ by decide)
  | adcAbs nn => exact .addWithCarry (.memory (.absolute nn)) (show (0x6D : Byte) ∈ _ by decide)
  | adcIndY n => exact .addWithCarry (.memory (.indirectIndexed n)) (show (0x71 : Byte) ∈ _ by decide)
  | adcZpX n => exact .addWithCarry (.memory (.zeroPageX n)) (show (0x75 : Byte) ∈ _ by decide)
  | adcAbsY nn => exact .addWithCarry (.memory (.absoluteY nn)) (show (0x79 : Byte) ∈ _ by decide)
  | adcAbsX nn => exact .addWithCarry (.memory (.absoluteX nn)) (show (0x7D : Byte) ∈ _ by decide)
  | sbcIndX n => exact .subtractWithBorrow (.memory (.indexedIndirect n)) (show (0xE1 : Byte) ∈ _ by decide)
  | sbcZp n => exact .subtractWithBorrow (.memory (.zeroPage n)) (show (0xE5 : Byte) ∈ _ by decide)
  | sbcImm n => exact .subtractWithBorrow (.immediate n) (show (0xE9 : Byte) ∈ _ by decide)
  | sbcAbs nn => exact .subtractWithBorrow (.memory (.absolute nn)) (show (0xED : Byte) ∈ _ by decide)
  | sbcIndY n => exact .subtractWithBorrow (.memory (.indirectIndexed n)) (show (0xF1 : Byte) ∈ _ by decide)
  | sbcZpX n => exact .subtractWithBorrow (.memory (.zeroPageX n)) (show (0xF5 : Byte) ∈ _ by decide)
  | sbcAbsY nn => exact .subtractWithBorrow (.memory (.absoluteY nn)) (show (0xF9 : Byte) ∈ _ by decide)
  | sbcAbsX nn => exact .subtractWithBorrow (.memory (.absoluteX nn)) (show (0xFD : Byte) ∈ _ by decide)
  | andIndX n => exact .andA (.memory (.indexedIndirect n)) (show (0x21 : Byte) ∈ _ by decide)
  | andZp n => exact .andA (.memory (.zeroPage n)) (show (0x25 : Byte) ∈ _ by decide)
  | andImm n => exact .andA (.immediate n) (show (0x29 : Byte) ∈ _ by decide)
  | andAbs nn => exact .andA (.memory (.absolute nn)) (show (0x2D : Byte) ∈ _ by decide)
  | andIndY n => exact .andA (.memory (.indirectIndexed n)) (show (0x31 : Byte) ∈ _ by decide)
  | andZpX n => exact .andA (.memory (.zeroPageX n)) (show (0x35 : Byte) ∈ _ by decide)
  | andAbsY nn => exact .andA (.memory (.absoluteY nn)) (show (0x39 : Byte) ∈ _ by decide)
  | andAbsX nn => exact .andA (.memory (.absoluteX nn)) (show (0x3D : Byte) ∈ _ by decide)
  | oraIndX n => exact .orA (.memory (.indexedIndirect n)) (show (0x01 : Byte) ∈ _ by decide)
  | oraZp n => exact .orA (.memory (.zeroPage n)) (show (0x05 : Byte) ∈ _ by decide)
  | oraImm n => exact .orA (.immediate n) (show (0x09 : Byte) ∈ _ by decide)
  | oraAbs nn => exact .orA (.memory (.absolute nn)) (show (0x0D : Byte) ∈ _ by decide)
  | oraIndY n => exact .orA (.memory (.indirectIndexed n)) (show (0x11 : Byte) ∈ _ by decide)
  | oraZpX n => exact .orA (.memory (.zeroPageX n)) (show (0x15 : Byte) ∈ _ by decide)
  | oraAbsY nn => exact .orA (.memory (.absoluteY nn)) (show (0x19 : Byte) ∈ _ by decide)
  | oraAbsX nn => exact .orA (.memory (.absoluteX nn)) (show (0x1D : Byte) ∈ _ by decide)
  | eorIndX n => exact .eorA (.memory (.indexedIndirect n)) (show (0x41 : Byte) ∈ _ by decide)
  | eorZp n => exact .eorA (.memory (.zeroPage n)) (show (0x45 : Byte) ∈ _ by decide)
  | eorImm n => exact .eorA (.immediate n) (show (0x49 : Byte) ∈ _ by decide)
  | eorAbs nn => exact .eorA (.memory (.absolute nn)) (show (0x4D : Byte) ∈ _ by decide)
  | eorIndY n => exact .eorA (.memory (.indirectIndexed n)) (show (0x51 : Byte) ∈ _ by decide)
  | eorZpX n => exact .eorA (.memory (.zeroPageX n)) (show (0x55 : Byte) ∈ _ by decide)
  | eorAbsY nn => exact .eorA (.memory (.absoluteY nn)) (show (0x59 : Byte) ∈ _ by decide)
  | eorAbsX nn => exact .eorA (.memory (.absoluteX nn)) (show (0x5D : Byte) ∈ _ by decide)
  | cmpIndX n => exact .compareA (.memory (.indexedIndirect n)) (show (0xC1 : Byte) ∈ _ by decide)
  | cmpZp n => exact .compareA (.memory (.zeroPage n)) (show (0xC5 : Byte) ∈ _ by decide)
  | cmpImm n => exact .compareA (.immediate n) (show (0xC9 : Byte) ∈ _ by decide)
  | cmpAbs nn => exact .compareA (.memory (.absolute nn)) (show (0xCD : Byte) ∈ _ by decide)
  | cmpIndY n => exact .compareA (.memory (.indirectIndexed n)) (show (0xD1 : Byte) ∈ _ by decide)
  | cmpZpX n => exact .compareA (.memory (.zeroPageX n)) (show (0xD5 : Byte) ∈ _ by decide)
  | cmpAbsY nn => exact .compareA (.memory (.absoluteY nn)) (show (0xD9 : Byte) ∈ _ by decide)
  | cmpAbsX nn => exact .compareA (.memory (.absoluteX nn)) (show (0xDD : Byte) ∈ _ by decide)
  | cpxImm n => exact .compareX (.immediate n) (show (0xE0 : Byte) ∈ _ by decide)
  | cpxZp n => exact .compareX (.memory (.zeroPage n)) (show (0xE4 : Byte) ∈ _ by decide)
  | cpxAbs nn => exact .compareX (.memory (.absolute nn)) (show (0xEC : Byte) ∈ _ by decide)
  | cpyImm n => exact .compareY (.immediate n) (show (0xC0 : Byte) ∈ _ by decide)
  | cpyZp n => exact .compareY (.memory (.zeroPage n)) (show (0xC4 : Byte) ∈ _ by decide)
  | cpyAbs nn => exact .compareY (.memory (.absolute nn)) (show (0xCC : Byte) ∈ _ by decide)
  | bitZp n => exact .bitTest (.memory (.zeroPage n)) (show (0x24 : Byte) ∈ _ by decide)
  | bitAbs nn => exact .bitTest (.memory (.absolute nn)) (show (0x2C : Byte) ∈ _ by decide)
  | incZp n => exact .incrementMemory (.zeroPage n) (show (0xE6 : Byte) ∈ _ by decide)
  | incAbs nn => exact .incrementMemory (.absolute nn) (show (0xEE : Byte) ∈ _ by decide)
  | incZpX n => exact .incrementMemory (.zeroPageX n) (show (0xF6 : Byte) ∈ _ by decide)
  | incAbsX nn => exact .incrementMemory (.absoluteX nn) (show (0xFE : Byte) ∈ _ by decide)
  | decZp n => exact .decrementMemory (.zeroPage n) (show (0xC6 : Byte) ∈ _ by decide)
  | decAbs nn => exact .decrementMemory (.absolute nn) (show (0xCE : Byte) ∈ _ by decide)
  | decZpX n => exact .decrementMemory (.zeroPageX n) (show (0xD6 : Byte) ∈ _ by decide)
  | decAbsX nn => exact .decrementMemory (.absoluteX nn) (show (0xDE : Byte) ∈ _ by decide)
  | inx => exact .inx (show (0xE8 : Byte) ∈ _ by decide)
  | iny => exact .iny (show (0xC8 : Byte) ∈ _ by decide)
  | dex => exact .dex (show (0xCA : Byte) ∈ _ by decide)
  | dey => exact .dey (show (0x88 : Byte) ∈ _ by decide)
  | aslZp n => exact .shiftLeft (.zeroPage n) (show (0x06 : Byte) ∈ _ by decide)
  | aslAcc => exact .shiftLeftAccumulator (show (0x0A : Byte) ∈ _ by decide)
  | aslAbs nn => exact .shiftLeft (.absolute nn) (show (0x0E : Byte) ∈ _ by decide)
  | aslZpX n => exact .shiftLeft (.zeroPageX n) (show (0x16 : Byte) ∈ _ by decide)
  | aslAbsX nn => exact .shiftLeft (.absoluteX nn) (show (0x1E : Byte) ∈ _ by decide)
  | lsrZp n => exact .shiftRight (.zeroPage n) (show (0x46 : Byte) ∈ _ by decide)
  | lsrAcc => exact .shiftRightAccumulator (show (0x4A : Byte) ∈ _ by decide)
  | lsrAbs nn => exact .shiftRight (.absolute nn) (show (0x4E : Byte) ∈ _ by decide)
  | lsrZpX n => exact .shiftRight (.zeroPageX n) (show (0x56 : Byte) ∈ _ by decide)
  | lsrAbsX nn => exact .shiftRight (.absoluteX nn) (show (0x5E : Byte) ∈ _ by decide)
  | rolZp n => exact .rotateLeft (.zeroPage n) (show (0x26 : Byte) ∈ _ by decide)
  | rolAcc => exact .rotateLeftAccumulator (show (0x2A : Byte) ∈ _ by decide)
  | rolAbs nn => exact .rotateLeft (.absolute nn) (show (0x2E : Byte) ∈ _ by decide)
  | rolZpX n => exact .rotateLeft (.zeroPageX n) (show (0x36 : Byte) ∈ _ by decide)
  | rolAbsX nn => exact .rotateLeft (.absoluteX nn) (show (0x3E : Byte) ∈ _ by decide)
  | rorZp n => exact .rotateRight (.zeroPage n) (show (0x66 : Byte) ∈ _ by decide)
  | rorAcc => exact .rotateRightAccumulator (show (0x6A : Byte) ∈ _ by decide)
  | rorAbs nn => exact .rotateRight (.absolute nn) (show (0x6E : Byte) ∈ _ by decide)
  | rorZpX n => exact .rotateRight (.zeroPageX n) (show (0x76 : Byte) ∈ _ by decide)
  | rorAbsX nn => exact .rotateRight (.absoluteX nn) (show (0x7E : Byte) ∈ _ by decide)
  | jmpAbs nn => exact .jmpAbs nn (show (0x4C : Byte) ∈ _ by decide)
  | jmpInd ptr => exact .jmpInd ptr (show (0x6C : Byte) ∈ _ by decide)
  | jsr nn => exact .jsr nn (show (0x20 : Byte) ∈ _ by decide)
  | rts => exact .rts (show (0x60 : Byte) ∈ _ by decide)
  | bpl d => exact .bpl d (show (0x10 : Byte) ∈ _ by decide)
  | bmi d => exact .bmi d (show (0x30 : Byte) ∈ _ by decide)
  | bvc d => exact .bvc d (show (0x50 : Byte) ∈ _ by decide)
  | bvs d => exact .bvs d (show (0x70 : Byte) ∈ _ by decide)
  | bcc d => exact .bcc d (show (0x90 : Byte) ∈ _ by decide)
  | bcs d => exact .bcs d (show (0xB0 : Byte) ∈ _ by decide)
  | bne d => exact .bne d (show (0xD0 : Byte) ∈ _ by decide)
  | beq d => exact .beq d (show (0xF0 : Byte) ∈ _ by decide)
  | brk => exact .brk (show (0x00 : Byte) ∈ _ by decide)
  | rti => exact .rti (show (0x40 : Byte) ∈ _ by decide)
  | clc => exact .clc (show (0x18 : Byte) ∈ _ by decide)
  | sec => exact .sec (show (0x38 : Byte) ∈ _ by decide)
  | cli => exact .cli (show (0x58 : Byte) ∈ _ by decide)
  | sei => exact .sei (show (0x78 : Byte) ∈ _ by decide)
  | cld => exact .cld (show (0xD8 : Byte) ∈ _ by decide)
  | sed => exact .sed (show (0xF8 : Byte) ∈ _ by decide)
  | clv => exact .clv (show (0xB8 : Byte) ∈ _ by decide)
  | nop => exact .nopImplied (show (0xEA : Byte) ∈ _ by decide)
  | sloIndX n => exact .shiftLeftOr (.indexedIndirect n) (show (0x03 : Byte) ∈ _ by decide)
  | sloZp n => exact .shiftLeftOr (.zeroPage n) (show (0x07 : Byte) ∈ _ by decide)
  | sloAbs nn => exact .shiftLeftOr (.absolute nn) (show (0x0F : Byte) ∈ _ by decide)
  | sloIndY n => exact .shiftLeftOr (.indirectIndexed n) (show (0x13 : Byte) ∈ _ by decide)
  | sloZpX n => exact .shiftLeftOr (.zeroPageX n) (show (0x17 : Byte) ∈ _ by decide)
  | sloAbsY nn => exact .shiftLeftOr (.absoluteY nn) (show (0x1B : Byte) ∈ _ by decide)
  | sloAbsX nn => exact .shiftLeftOr (.absoluteX nn) (show (0x1F : Byte) ∈ _ by decide)
  | rlaIndX n => exact .rotateLeftAnd (.indexedIndirect n) (show (0x23 : Byte) ∈ _ by decide)
  | rlaZp n => exact .rotateLeftAnd (.zeroPage n) (show (0x27 : Byte) ∈ _ by decide)
  | rlaAbs nn => exact .rotateLeftAnd (.absolute nn) (show (0x2F : Byte) ∈ _ by decide)
  | rlaIndY n => exact .rotateLeftAnd (.indirectIndexed n) (show (0x33 : Byte) ∈ _ by decide)
  | rlaZpX n => exact .rotateLeftAnd (.zeroPageX n) (show (0x37 : Byte) ∈ _ by decide)
  | rlaAbsY nn => exact .rotateLeftAnd (.absoluteY nn) (show (0x3B : Byte) ∈ _ by decide)
  | rlaAbsX nn => exact .rotateLeftAnd (.absoluteX nn) (show (0x3F : Byte) ∈ _ by decide)
  | sreIndX n => exact .shiftRightEor (.indexedIndirect n) (show (0x43 : Byte) ∈ _ by decide)
  | sreZp n => exact .shiftRightEor (.zeroPage n) (show (0x47 : Byte) ∈ _ by decide)
  | sreAbs nn => exact .shiftRightEor (.absolute nn) (show (0x4F : Byte) ∈ _ by decide)
  | sreIndY n => exact .shiftRightEor (.indirectIndexed n) (show (0x53 : Byte) ∈ _ by decide)
  | sreZpX n => exact .shiftRightEor (.zeroPageX n) (show (0x57 : Byte) ∈ _ by decide)
  | sreAbsY nn => exact .shiftRightEor (.absoluteY nn) (show (0x5B : Byte) ∈ _ by decide)
  | sreAbsX nn => exact .shiftRightEor (.absoluteX nn) (show (0x5F : Byte) ∈ _ by decide)
  | rraIndX n => exact .rotateRightAdd (.indexedIndirect n) (show (0x63 : Byte) ∈ _ by decide)
  | rraZp n => exact .rotateRightAdd (.zeroPage n) (show (0x67 : Byte) ∈ _ by decide)
  | rraAbs nn => exact .rotateRightAdd (.absolute nn) (show (0x6F : Byte) ∈ _ by decide)
  | rraIndY n => exact .rotateRightAdd (.indirectIndexed n) (show (0x73 : Byte) ∈ _ by decide)
  | rraZpX n => exact .rotateRightAdd (.zeroPageX n) (show (0x77 : Byte) ∈ _ by decide)
  | rraAbsY nn => exact .rotateRightAdd (.absoluteY nn) (show (0x7B : Byte) ∈ _ by decide)
  | rraAbsX nn => exact .rotateRightAdd (.absoluteX nn) (show (0x7F : Byte) ∈ _ by decide)
  | dcpIndX n => exact .decrementCompare (.indexedIndirect n) (show (0xC3 : Byte) ∈ _ by decide)
  | dcpZp n => exact .decrementCompare (.zeroPage n) (show (0xC7 : Byte) ∈ _ by decide)
  | dcpAbs nn => exact .decrementCompare (.absolute nn) (show (0xCF : Byte) ∈ _ by decide)
  | dcpIndY n => exact .decrementCompare (.indirectIndexed n) (show (0xD3 : Byte) ∈ _ by decide)
  | dcpZpX n => exact .decrementCompare (.zeroPageX n) (show (0xD7 : Byte) ∈ _ by decide)
  | dcpAbsY nn => exact .decrementCompare (.absoluteY nn) (show (0xDB : Byte) ∈ _ by decide)
  | dcpAbsX nn => exact .decrementCompare (.absoluteX nn) (show (0xDF : Byte) ∈ _ by decide)
  | iscIndX n => exact .incrementSubtract (.indexedIndirect n) (show (0xE3 : Byte) ∈ _ by decide)
  | iscZp n => exact .incrementSubtract (.zeroPage n) (show (0xE7 : Byte) ∈ _ by decide)
  | iscAbs nn => exact .incrementSubtract (.absolute nn) (show (0xEF : Byte) ∈ _ by decide)
  | iscIndY n => exact .incrementSubtract (.indirectIndexed n) (show (0xF3 : Byte) ∈ _ by decide)
  | iscZpX n => exact .incrementSubtract (.zeroPageX n) (show (0xF7 : Byte) ∈ _ by decide)
  | iscAbsY nn => exact .incrementSubtract (.absoluteY nn) (show (0xFB : Byte) ∈ _ by decide)
  | iscAbsX nn => exact .incrementSubtract (.absoluteX nn) (show (0xFF : Byte) ∈ _ by decide)
  | saxIndX n => exact .storeAX (.indexedIndirect n) (show (0x83 : Byte) ∈ _ by decide)
  | saxZp n => exact .storeAX (.zeroPage n) (show (0x87 : Byte) ∈ _ by decide)
  | saxAbs nn => exact .storeAX (.absolute nn) (show (0x8F : Byte) ∈ _ by decide)
  | saxZpY n => exact .storeAX (.zeroPageY n) (show (0x97 : Byte) ∈ _ by decide)
  | laxIndX n => exact .loadAX (.memory (.indexedIndirect n)) (show (0xA3 : Byte) ∈ _ by decide)
  | laxZp n => exact .loadAX (.memory (.zeroPage n)) (show (0xA7 : Byte) ∈ _ by decide)
  | laxAbs nn => exact .loadAX (.memory (.absolute nn)) (show (0xAF : Byte) ∈ _ by decide)
  | laxIndY n => exact .loadAX (.memory (.indirectIndexed n)) (show (0xB3 : Byte) ∈ _ by decide)
  | laxZpY n => exact .loadAX (.memory (.zeroPageY n)) (show (0xB7 : Byte) ∈ _ by decide)
  | laxAbsY nn => exact .loadAX (.memory (.absoluteY nn)) (show (0xBF : Byte) ∈ _ by decide)
  | anc0B n => exact .anc n (show (0x0B : Byte) ∈ _ by decide)
  | anc2B n => exact .anc n (show (0x2B : Byte) ∈ _ by decide)
  | alr n => exact .alr n (show (0x4B : Byte) ∈ _ by decide)
  | arr n => exact .arr n (show (0x6B : Byte) ∈ _ by decide)
  | sbx n => exact .sbx n (show (0xCB : Byte) ∈ _ by decide)
  | usbc n => exact .usbc n (show (0xEB : Byte) ∈ _ by decide)
  | shaIndY n => exact .unstable (.indirectIndexed n) (show (0x93 : Byte) ∈ _ by decide)
  | shaAbsY nn => exact .unstable (.absoluteY nn) (show (0x9F : Byte) ∈ _ by decide)
  | tas nn => exact .unstable (.absoluteY nn) (show (0x9B : Byte) ∈ _ by decide)
  | shy nn => exact .unstable (.absoluteX nn) (show (0x9C : Byte) ∈ _ by decide)
  | shx nn => exact .unstable (.absoluteY nn) (show (0x9E : Byte) ∈ _ by decide)
  | las nn => exact .unstable (.absoluteY nn) (show (0xBB : Byte) ∈ _ by decide)
  | ane => exact .unstableImmediate (show (0x8B : Byte) ∈ _ by decide)
  | lxa => exact .unstableImmediate (show (0xAB : Byte) ∈ _ by decide)
  | nop04 n => exact .nopAddressed (.zeroPage n) (show (0x04 : Byte) ∈ _ by decide)
  | nop0C nn => exact .nopAddressed (.absolute nn) (show (0x0C : Byte) ∈ _ by decide)
  | nop14 n => exact .nopAddressed (.zeroPageX n) (show (0x14 : Byte) ∈ _ by decide)
  | nop1C nn => exact .nopAddressed (.absoluteX nn) (show (0x1C : Byte) ∈ _ by decide)
  | nop34 n => exact .nopAddressed (.zeroPageX n) (show (0x34 : Byte) ∈ _ by decide)
  | nop3C nn => exact .nopAddressed (.absoluteX nn) (show (0x3C : Byte) ∈ _ by decide)
  | nop44 n => exact .nopAddressed (.zeroPage n) (show (0x44 : Byte) ∈ _ by decide)
  | nop54 n => exact .nopAddressed (.zeroPageX n) (show (0x54 : Byte) ∈ _ by decide)
  | nop5C nn => exact .nopAddressed (.absoluteX nn) (show (0x5C : Byte) ∈ _ by decide)
  | nop64 n => exact .nopAddressed (.zeroPage n) (show (0x64 : Byte) ∈ _ by decide)
  | nop74 n => exact .nopAddressed (.zeroPageX n) (show (0x74 : Byte) ∈ _ by decide)
  | nop7C nn => exact .nopAddressed (.absoluteX nn) (show (0x7C : Byte) ∈ _ by decide)
  | nopD4 n => exact .nopAddressed (.zeroPageX n) (show (0xD4 : Byte) ∈ _ by decide)
  | nopDC nn => exact .nopAddressed (.absoluteX nn) (show (0xDC : Byte) ∈ _ by decide)
  | nopF4 n => exact .nopAddressed (.zeroPageX n) (show (0xF4 : Byte) ∈ _ by decide)
  | nopFC nn => exact .nopAddressed (.absoluteX nn) (show (0xFC : Byte) ∈ _ by decide)
  | nop1A => exact .nopImplied (show (0x1A : Byte) ∈ _ by decide)
  | nop3A => exact .nopImplied (show (0x3A : Byte) ∈ _ by decide)
  | nop5A => exact .nopImplied (show (0x5A : Byte) ∈ _ by decide)
  | nop7A => exact .nopImplied (show (0x7A : Byte) ∈ _ by decide)
  | nop80 => exact .nopImmediate (show (0x80 : Byte) ∈ _ by decide)
  | nop82 => exact .nopImmediate (show (0x82 : Byte) ∈ _ by decide)
  | nop89 => exact .nopImmediate (show (0x89 : Byte) ∈ _ by decide)
  | nopC2 => exact .nopImmediate (show (0xC2 : Byte) ∈ _ by decide)
  | nopDA => exact .nopImplied (show (0xDA : Byte) ∈ _ by decide)
  | nopE2 => exact .nopImmediate (show (0xE2 : Byte) ∈ _ by decide)
  | nopFA => exact .nopImplied (show (0xFA : Byte) ∈ _ by decide)
  | jam02 => exact .jam (show (0x02 : Byte) ∈ _ by decide)
  | jam12 => exact .jam (show (0x12 : Byte) ∈ _ by decide)
  | jam22 => exact .jam (show (0x22 : Byte) ∈ _ by decide)
  | jam32 => exact .jam (show (0x32 : Byte) ∈ _ by decide)
  | jam42 => exact .jam (show (0x42 : Byte) ∈ _ by decide)
  | jam52 => exact .jam (show (0x52 : Byte) ∈ _ by decide)
  | jam62 => exact .jam (show (0x62 : Byte) ∈ _ by decide)
  | jam72 => exact .jam (show (0x72 : Byte) ∈ _ by decide)
  | jam92 => exact .jam (show (0x92 : Byte) ∈ _ by decide)
  | jamB2 => exact .jam (show (0xB2 : Byte) ∈ _ by decide)
  | jamD2 => exact .jam (show (0xD2 : Byte) ∈ _ by decide)
  | jamF2 => exact .jam (show (0xF2 : Byte) ∈ _ by decide)

/-! ### What no instruction changes -/

theorem State.Evolves.setP {s t : State} (h : s.Evolves t) (v : Status) : s.Evolves (t.setP v) :=
  h.trans (State.Evolves.of_eq rfl rfl rfl rfl rfl)

theorem State.Evolves.setA {s t : State} (h : s.Evolves t) (v : Byte) : s.Evolves (t.setA v) :=
  h.trans (State.Evolves.of_eq rfl rfl rfl rfl rfl)

theorem State.Evolves.setX {s t : State} (h : s.Evolves t) (v : Byte) : s.Evolves (t.setX v) :=
  h.trans (State.Evolves.of_eq rfl rfl rfl rfl rfl)

theorem State.Evolves.setY {s t : State} (h : s.Evolves t) (v : Byte) : s.Evolves (t.setY v) :=
  h.trans (State.Evolves.of_eq rfl rfl rfl rfl rfl)

theorem State.Evolves.setSp {s t : State} (h : s.Evolves t) (v : Byte) : s.Evolves (t.setSp v) :=
  h.trans (State.Evolves.of_eq rfl rfl rfl rfl rfl)

theorem State.Evolves.setPc {s t : State} (h : s.Evolves t) (v : Word) : s.Evolves (t.setPc v) :=
  h.trans (State.Evolves.of_eq rfl rfl rfl rfl rfl)

theorem State.Evolves.setNZ {s t : State} (h : s.Evolves t) (v : Byte) : s.Evolves (t.setNZ v) :=
  h.trans (State.Evolves.of_eq rfl rfl rfl rfl rfl)

theorem State.Evolves.halt {s t : State} (h : s.Evolves t) : s.Evolves t.halt :=
  h.trans (State.Evolves.of_eq rfl rfl rfl rfl rfl)

theorem State.Evolves.skipByte {s t : State} (h : s.Evolves t) : s.Evolves (skipByte t) :=
  h.trans (State.Evolves.of_eq rfl rfl rfl rfl rfl)

theorem State.Evolves.branch {s t : State} (h : s.Evolves t) (cond : Bool) (d : Byte) : s.Evolves (branch cond d t) := by
  unfold Machine.branch
  simp only
  split <;> (try split) <;> exact h.trans (State.Evolves.of_eq rfl rfl rfl rfl rfl)

/-- No instruction changes the parameters, the inputs, the count, the ticks, or a Memory but for the cells of a writable one. -/
theorem exec_evolves {i : Instr} {s t : State} (h : exec i s = .next t) : s.Evolves t := by
  have ran := exec_ran i s
  rw [h] at ran
  generalize i.opcode = op at ran
  generalize ho : Host.Outcome.next t = outcome at ran
  have r := State.Evolves.refl s
  cases ran
  case unstable m hm =>
    unfold Machine.unstable at ho
    split at ho <;> simp at ho
    subst ho
    exact r.resolve m
  case unstableImmediate hm =>
    unfold Machine.unstable at ho
    split at ho <;> simp at ho
    subst ho
    exact r.skipByte
  case nopAddressed m hm =>
    simp only [Host.Outcome.next.injEq] at ho
    subst ho
    exact State.Evolves.chargeCross (r.resolve m)
  all_goals
    simp only [Host.Outcome.next.injEq] at ho
    subst ho
    try simp only [loadA, loadX, loadY, loadAX, storeA, storeX, storeY, storeAX, addWithCarry, subtractWithBorrow, andA, orA,
      eorA, compareA, compareX, compareY, bitTest, incrementMemory, decrementMemory, shiftLeft, shiftRight, rotateLeft,
      rotateRight, shiftLeftOr, rotateLeftAnd, shiftRightEor, rotateRightAdd, decrementCompare, incrementSubtract, jam,
      immediateCore]
    repeat (first
      | exact r
      | with_reducible apply State.Evolves.setP
      | with_reducible apply State.Evolves.setA
      | with_reducible apply State.Evolves.setX
      | with_reducible apply State.Evolves.setY
      | with_reducible apply State.Evolves.setSp
      | with_reducible apply State.Evolves.setPc
      | with_reducible apply State.Evolves.setNZ
      | with_reducible apply State.Evolves.halt
      | with_reducible apply State.Evolves.skipByte
      | with_reducible apply State.Evolves.branch
      | with_reducible apply State.Evolves.readOperand
      | with_reducible apply State.Evolves.writeOperand
      | with_reducible apply State.Evolves.modifyOperand
      | with_reducible apply State.Evolves.add
      | with_reducible apply State.Evolves.sub
      | with_reducible apply State.Evolves.push
      | with_reducible apply State.Evolves.pull
      | with_reducible apply State.Evolves.interruptEntry
      | with_reducible apply State.Evolves.returnFromInterrupt
      | with_reducible apply State.Evolves.indirectTarget)

end Sys2Proof.Machine
end

