-- ==== Sys2Proof/Laws/PerInstr.lean ====
section
/-! SUPPORT. Per-instruction facts about the encoding, one lemma for each constructor of `Instr`. -/

namespace Sys2Proof.Laws.EncodedForm

/-- A slot accepts the operand bytes of an instruction: it gives that instruction for them, whatever the instruction's operand. -/
def Accepts : Slot → Instr → List Byte → Prop
  | .bare j, i, operands => j = i ∧ operands = []
  | .skip j, i, operands => j = i ∧ operands = [0x00]
  | .byte f, i, operands => ∃ b, f b = i ∧ operands = [b]
  | .word f, i, operands => ∃ w, f w = i ∧ operands = wordBytes w

/-- The encoding of `i` is an opcode byte whose slot gives `i` for the operand bytes that follow (spec 30_encoding R90 to R94). -/
def Statement (i : Instr) : Prop :=
  ∃ op operands, encode i = op :: operands ∧ Accepts (slotOf op) i operands

theorem ldaIndX (n : Byte) : Statement (.ldaIndX n) := ⟨_, _, rfl, _, rfl, rfl⟩
theorem ldaZp (n : Byte) : Statement (.ldaZp n) := ⟨_, _, rfl, _, rfl, rfl⟩
theorem ldaImm (n : Byte) : Statement (.ldaImm n) := ⟨_, _, rfl, _, rfl, rfl⟩
theorem ldaAbs (nn : Word) : Statement (.ldaAbs nn) := ⟨_, _, rfl, _, rfl, rfl⟩
theorem ldaIndY (n : Byte) : Statement (.ldaIndY n) := ⟨_, _, rfl, _, rfl, rfl⟩
theorem ldaZpX (n : Byte) : Statement (.ldaZpX n) := ⟨_, _, rfl, _, rfl, rfl⟩
theorem ldaAbsY (nn : Word) : Statement (.ldaAbsY nn) := ⟨_, _, rfl, _, rfl, rfl⟩
theorem ldaAbsX (nn : Word) : Statement (.ldaAbsX nn) := ⟨_, _, rfl, _, rfl, rfl⟩
theorem ldxImm (n : Byte) : Statement (.ldxImm n) := ⟨_, _, rfl, _, rfl, rfl⟩
theorem ldxZp (n : Byte) : Statement (.ldxZp n) := ⟨_, _, rfl, _, rfl, rfl⟩
theorem ldxAbs (nn : Word) : Statement (.ldxAbs nn) := ⟨_, _, rfl, _, rfl, rfl⟩
theorem ldxZpY (n : Byte) : Statement (.ldxZpY n) := ⟨_, _, rfl, _, rfl, rfl⟩
theorem ldxAbsY (nn : Word) : Statement (.ldxAbsY nn) := ⟨_, _, rfl, _, rfl, rfl⟩
theorem ldyImm (n : Byte) : Statement (.ldyImm n) := ⟨_, _, rfl, _, rfl, rfl⟩
theorem ldyZp (n : Byte) : Statement (.ldyZp n) := ⟨_, _, rfl, _, rfl, rfl⟩
theorem ldyAbs (nn : Word) : Statement (.ldyAbs nn) := ⟨_, _, rfl, _, rfl, rfl⟩
theorem ldyZpX (n : Byte) : Statement (.ldyZpX n) := ⟨_, _, rfl, _, rfl, rfl⟩
theorem ldyAbsX (nn : Word) : Statement (.ldyAbsX nn) := ⟨_, _, rfl, _, rfl, rfl⟩
theorem staIndX (n : Byte) : Statement (.staIndX n) := ⟨_, _, rfl, _, rfl, rfl⟩
theorem staZp (n : Byte) : Statement (.staZp n) := ⟨_, _, rfl, _, rfl, rfl⟩
theorem staAbs (nn : Word) : Statement (.staAbs nn) := ⟨_, _, rfl, _, rfl, rfl⟩
theorem staIndY (n : Byte) : Statement (.staIndY n) := ⟨_, _, rfl, _, rfl, rfl⟩
theorem staZpX (n : Byte) : Statement (.staZpX n) := ⟨_, _, rfl, _, rfl, rfl⟩
theorem staAbsY (nn : Word) : Statement (.staAbsY nn) := ⟨_, _, rfl, _, rfl, rfl⟩
theorem staAbsX (nn : Word) : Statement (.staAbsX nn) := ⟨_, _, rfl, _, rfl, rfl⟩
theorem stxZp (n : Byte) : Statement (.stxZp n) := ⟨_, _, rfl, _, rfl, rfl⟩
theorem stxAbs (nn : Word) : Statement (.stxAbs nn) := ⟨_, _, rfl, _, rfl, rfl⟩
theorem stxZpY (n : Byte) : Statement (.stxZpY n) := ⟨_, _, rfl, _, rfl, rfl⟩
theorem styZp (n : Byte) : Statement (.styZp n) := ⟨_, _, rfl, _, rfl, rfl⟩
theorem styAbs (nn : Word) : Statement (.styAbs nn) := ⟨_, _, rfl, _, rfl, rfl⟩
theorem styZpX (n : Byte) : Statement (.styZpX n) := ⟨_, _, rfl, _, rfl, rfl⟩
theorem tax : Statement .tax := ⟨_, _, rfl, rfl, rfl⟩
theorem tay : Statement .tay := ⟨_, _, rfl, rfl, rfl⟩
theorem txa : Statement .txa := ⟨_, _, rfl, rfl, rfl⟩
theorem tya : Statement .tya := ⟨_, _, rfl, rfl, rfl⟩
theorem tsx : Statement .tsx := ⟨_, _, rfl, rfl, rfl⟩
theorem txs : Statement .txs := ⟨_, _, rfl, rfl, rfl⟩
theorem pha : Statement .pha := ⟨_, _, rfl, rfl, rfl⟩
theorem php : Statement .php := ⟨_, _, rfl, rfl, rfl⟩
theorem pla : Statement .pla := ⟨_, _, rfl, rfl, rfl⟩
theorem plp : Statement .plp := ⟨_, _, rfl, rfl, rfl⟩
theorem adcIndX (n : Byte) : Statement (.adcIndX n) := ⟨_, _, rfl, _, rfl, rfl⟩
theorem adcZp (n : Byte) : Statement (.adcZp n) := ⟨_, _, rfl, _, rfl, rfl⟩
theorem adcImm (n : Byte) : Statement (.adcImm n) := ⟨_, _, rfl, _, rfl, rfl⟩
theorem adcAbs (nn : Word) : Statement (.adcAbs nn) := ⟨_, _, rfl, _, rfl, rfl⟩
theorem adcIndY (n : Byte) : Statement (.adcIndY n) := ⟨_, _, rfl, _, rfl, rfl⟩
theorem adcZpX (n : Byte) : Statement (.adcZpX n) := ⟨_, _, rfl, _, rfl, rfl⟩
theorem adcAbsY (nn : Word) : Statement (.adcAbsY nn) := ⟨_, _, rfl, _, rfl, rfl⟩
theorem adcAbsX (nn : Word) : Statement (.adcAbsX nn) := ⟨_, _, rfl, _, rfl, rfl⟩
theorem sbcIndX (n : Byte) : Statement (.sbcIndX n) := ⟨_, _, rfl, _, rfl, rfl⟩
theorem sbcZp (n : Byte) : Statement (.sbcZp n) := ⟨_, _, rfl, _, rfl, rfl⟩
theorem sbcImm (n : Byte) : Statement (.sbcImm n) := ⟨_, _, rfl, _, rfl, rfl⟩
theorem sbcAbs (nn : Word) : Statement (.sbcAbs nn) := ⟨_, _, rfl, _, rfl, rfl⟩
theorem sbcIndY (n : Byte) : Statement (.sbcIndY n) := ⟨_, _, rfl, _, rfl, rfl⟩
theorem sbcZpX (n : Byte) : Statement (.sbcZpX n) := ⟨_, _, rfl, _, rfl, rfl⟩
theorem sbcAbsY (nn : Word) : Statement (.sbcAbsY nn) := ⟨_, _, rfl, _, rfl, rfl⟩
theorem sbcAbsX (nn : Word) : Statement (.sbcAbsX nn) := ⟨_, _, rfl, _, rfl, rfl⟩
theorem andIndX (n : Byte) : Statement (.andIndX n) := ⟨_, _, rfl, _, rfl, rfl⟩
theorem andZp (n : Byte) : Statement (.andZp n) := ⟨_, _, rfl, _, rfl, rfl⟩
theorem andImm (n : Byte) : Statement (.andImm n) := ⟨_, _, rfl, _, rfl, rfl⟩
theorem andAbs (nn : Word) : Statement (.andAbs nn) := ⟨_, _, rfl, _, rfl, rfl⟩
theorem andIndY (n : Byte) : Statement (.andIndY n) := ⟨_, _, rfl, _, rfl, rfl⟩
theorem andZpX (n : Byte) : Statement (.andZpX n) := ⟨_, _, rfl, _, rfl, rfl⟩
theorem andAbsY (nn : Word) : Statement (.andAbsY nn) := ⟨_, _, rfl, _, rfl, rfl⟩
theorem andAbsX (nn : Word) : Statement (.andAbsX nn) := ⟨_, _, rfl, _, rfl, rfl⟩
theorem oraIndX (n : Byte) : Statement (.oraIndX n) := ⟨_, _, rfl, _, rfl, rfl⟩
theorem oraZp (n : Byte) : Statement (.oraZp n) := ⟨_, _, rfl, _, rfl, rfl⟩
theorem oraImm (n : Byte) : Statement (.oraImm n) := ⟨_, _, rfl, _, rfl, rfl⟩
theorem oraAbs (nn : Word) : Statement (.oraAbs nn) := ⟨_, _, rfl, _, rfl, rfl⟩
theorem oraIndY (n : Byte) : Statement (.oraIndY n) := ⟨_, _, rfl, _, rfl, rfl⟩
theorem oraZpX (n : Byte) : Statement (.oraZpX n) := ⟨_, _, rfl, _, rfl, rfl⟩
theorem oraAbsY (nn : Word) : Statement (.oraAbsY nn) := ⟨_, _, rfl, _, rfl, rfl⟩
theorem oraAbsX (nn : Word) : Statement (.oraAbsX nn) := ⟨_, _, rfl, _, rfl, rfl⟩
theorem eorIndX (n : Byte) : Statement (.eorIndX n) := ⟨_, _, rfl, _, rfl, rfl⟩
theorem eorZp (n : Byte) : Statement (.eorZp n) := ⟨_, _, rfl, _, rfl, rfl⟩
theorem eorImm (n : Byte) : Statement (.eorImm n) := ⟨_, _, rfl, _, rfl, rfl⟩
theorem eorAbs (nn : Word) : Statement (.eorAbs nn) := ⟨_, _, rfl, _, rfl, rfl⟩
theorem eorIndY (n : Byte) : Statement (.eorIndY n) := ⟨_, _, rfl, _, rfl, rfl⟩
theorem eorZpX (n : Byte) : Statement (.eorZpX n) := ⟨_, _, rfl, _, rfl, rfl⟩
theorem eorAbsY (nn : Word) : Statement (.eorAbsY nn) := ⟨_, _, rfl, _, rfl, rfl⟩
theorem eorAbsX (nn : Word) : Statement (.eorAbsX nn) := ⟨_, _, rfl, _, rfl, rfl⟩
theorem cmpIndX (n : Byte) : Statement (.cmpIndX n) := ⟨_, _, rfl, _, rfl, rfl⟩
theorem cmpZp (n : Byte) : Statement (.cmpZp n) := ⟨_, _, rfl, _, rfl, rfl⟩
theorem cmpImm (n : Byte) : Statement (.cmpImm n) := ⟨_, _, rfl, _, rfl, rfl⟩
theorem cmpAbs (nn : Word) : Statement (.cmpAbs nn) := ⟨_, _, rfl, _, rfl, rfl⟩
theorem cmpIndY (n : Byte) : Statement (.cmpIndY n) := ⟨_, _, rfl, _, rfl, rfl⟩
theorem cmpZpX (n : Byte) : Statement (.cmpZpX n) := ⟨_, _, rfl, _, rfl, rfl⟩
theorem cmpAbsY (nn : Word) : Statement (.cmpAbsY nn) := ⟨_, _, rfl, _, rfl, rfl⟩
theorem cmpAbsX (nn : Word) : Statement (.cmpAbsX nn) := ⟨_, _, rfl, _, rfl, rfl⟩
theorem cpxImm (n : Byte) : Statement (.cpxImm n) := ⟨_, _, rfl, _, rfl, rfl⟩
theorem cpxZp (n : Byte) : Statement (.cpxZp n) := ⟨_, _, rfl, _, rfl, rfl⟩
theorem cpxAbs (nn : Word) : Statement (.cpxAbs nn) := ⟨_, _, rfl, _, rfl, rfl⟩
theorem cpyImm (n : Byte) : Statement (.cpyImm n) := ⟨_, _, rfl, _, rfl, rfl⟩
theorem cpyZp (n : Byte) : Statement (.cpyZp n) := ⟨_, _, rfl, _, rfl, rfl⟩
theorem cpyAbs (nn : Word) : Statement (.cpyAbs nn) := ⟨_, _, rfl, _, rfl, rfl⟩
theorem bitZp (n : Byte) : Statement (.bitZp n) := ⟨_, _, rfl, _, rfl, rfl⟩
theorem bitAbs (nn : Word) : Statement (.bitAbs nn) := ⟨_, _, rfl, _, rfl, rfl⟩
theorem incZp (n : Byte) : Statement (.incZp n) := ⟨_, _, rfl, _, rfl, rfl⟩
theorem incAbs (nn : Word) : Statement (.incAbs nn) := ⟨_, _, rfl, _, rfl, rfl⟩
theorem incZpX (n : Byte) : Statement (.incZpX n) := ⟨_, _, rfl, _, rfl, rfl⟩
theorem incAbsX (nn : Word) : Statement (.incAbsX nn) := ⟨_, _, rfl, _, rfl, rfl⟩
theorem decZp (n : Byte) : Statement (.decZp n) := ⟨_, _, rfl, _, rfl, rfl⟩
theorem decAbs (nn : Word) : Statement (.decAbs nn) := ⟨_, _, rfl, _, rfl, rfl⟩
theorem decZpX (n : Byte) : Statement (.decZpX n) := ⟨_, _, rfl, _, rfl, rfl⟩
theorem decAbsX (nn : Word) : Statement (.decAbsX nn) := ⟨_, _, rfl, _, rfl, rfl⟩
theorem inx : Statement .inx := ⟨_, _, rfl, rfl, rfl⟩
theorem iny : Statement .iny := ⟨_, _, rfl, rfl, rfl⟩
theorem dex : Statement .dex := ⟨_, _, rfl, rfl, rfl⟩
theorem dey : Statement .dey := ⟨_, _, rfl, rfl, rfl⟩
theorem aslZp (n : Byte) : Statement (.aslZp n) := ⟨_, _, rfl, _, rfl, rfl⟩
theorem aslAcc : Statement .aslAcc := ⟨_, _, rfl, rfl, rfl⟩
theorem aslAbs (nn : Word) : Statement (.aslAbs nn) := ⟨_, _, rfl, _, rfl, rfl⟩
theorem aslZpX (n : Byte) : Statement (.aslZpX n) := ⟨_, _, rfl, _, rfl, rfl⟩
theorem aslAbsX (nn : Word) : Statement (.aslAbsX nn) := ⟨_, _, rfl, _, rfl, rfl⟩
theorem lsrZp (n : Byte) : Statement (.lsrZp n) := ⟨_, _, rfl, _, rfl, rfl⟩
theorem lsrAcc : Statement .lsrAcc := ⟨_, _, rfl, rfl, rfl⟩
theorem lsrAbs (nn : Word) : Statement (.lsrAbs nn) := ⟨_, _, rfl, _, rfl, rfl⟩
theorem lsrZpX (n : Byte) : Statement (.lsrZpX n) := ⟨_, _, rfl, _, rfl, rfl⟩
theorem lsrAbsX (nn : Word) : Statement (.lsrAbsX nn) := ⟨_, _, rfl, _, rfl, rfl⟩
theorem rolZp (n : Byte) : Statement (.rolZp n) := ⟨_, _, rfl, _, rfl, rfl⟩
theorem rolAcc : Statement .rolAcc := ⟨_, _, rfl, rfl, rfl⟩
theorem rolAbs (nn : Word) : Statement (.rolAbs nn) := ⟨_, _, rfl, _, rfl, rfl⟩
theorem rolZpX (n : Byte) : Statement (.rolZpX n) := ⟨_, _, rfl, _, rfl, rfl⟩
theorem rolAbsX (nn : Word) : Statement (.rolAbsX nn) := ⟨_, _, rfl, _, rfl, rfl⟩
theorem rorZp (n : Byte) : Statement (.rorZp n) := ⟨_, _, rfl, _, rfl, rfl⟩
theorem rorAcc : Statement .rorAcc := ⟨_, _, rfl, rfl, rfl⟩
theorem rorAbs (nn : Word) : Statement (.rorAbs nn) := ⟨_, _, rfl, _, rfl, rfl⟩
theorem rorZpX (n : Byte) : Statement (.rorZpX n) := ⟨_, _, rfl, _, rfl, rfl⟩
theorem rorAbsX (nn : Word) : Statement (.rorAbsX nn) := ⟨_, _, rfl, _, rfl, rfl⟩
theorem jmpAbs (nn : Word) : Statement (.jmpAbs nn) := ⟨_, _, rfl, _, rfl, rfl⟩
theorem jmpInd (ptr : Word) : Statement (.jmpInd ptr) := ⟨_, _, rfl, _, rfl, rfl⟩
theorem jsr (nn : Word) : Statement (.jsr nn) := ⟨_, _, rfl, _, rfl, rfl⟩
theorem rts : Statement .rts := ⟨_, _, rfl, rfl, rfl⟩
theorem bpl (d : Byte) : Statement (.bpl d) := ⟨_, _, rfl, _, rfl, rfl⟩
theorem bmi (d : Byte) : Statement (.bmi d) := ⟨_, _, rfl, _, rfl, rfl⟩
theorem bvc (d : Byte) : Statement (.bvc d) := ⟨_, _, rfl, _, rfl, rfl⟩
theorem bvs (d : Byte) : Statement (.bvs d) := ⟨_, _, rfl, _, rfl, rfl⟩
theorem bcc (d : Byte) : Statement (.bcc d) := ⟨_, _, rfl, _, rfl, rfl⟩
theorem bcs (d : Byte) : Statement (.bcs d) := ⟨_, _, rfl, _, rfl, rfl⟩
theorem bne (d : Byte) : Statement (.bne d) := ⟨_, _, rfl, _, rfl, rfl⟩
theorem beq (d : Byte) : Statement (.beq d) := ⟨_, _, rfl, _, rfl, rfl⟩
theorem brk : Statement .brk := ⟨_, _, rfl, rfl, rfl⟩
theorem rti : Statement .rti := ⟨_, _, rfl, rfl, rfl⟩
theorem clc : Statement .clc := ⟨_, _, rfl, rfl, rfl⟩
theorem sec : Statement .sec := ⟨_, _, rfl, rfl, rfl⟩
theorem cli : Statement .cli := ⟨_, _, rfl, rfl, rfl⟩
theorem sei : Statement .sei := ⟨_, _, rfl, rfl, rfl⟩
theorem cld : Statement .cld := ⟨_, _, rfl, rfl, rfl⟩
theorem sed : Statement .sed := ⟨_, _, rfl, rfl, rfl⟩
theorem clv : Statement .clv := ⟨_, _, rfl, rfl, rfl⟩
theorem nop : Statement .nop := ⟨_, _, rfl, rfl, rfl⟩
theorem sloIndX (n : Byte) : Statement (.sloIndX n) := ⟨_, _, rfl, _, rfl, rfl⟩
theorem sloZp (n : Byte) : Statement (.sloZp n) := ⟨_, _, rfl, _, rfl, rfl⟩
theorem sloAbs (nn : Word) : Statement (.sloAbs nn) := ⟨_, _, rfl, _, rfl, rfl⟩
theorem sloIndY (n : Byte) : Statement (.sloIndY n) := ⟨_, _, rfl, _, rfl, rfl⟩
theorem sloZpX (n : Byte) : Statement (.sloZpX n) := ⟨_, _, rfl, _, rfl, rfl⟩
theorem sloAbsY (nn : Word) : Statement (.sloAbsY nn) := ⟨_, _, rfl, _, rfl, rfl⟩
theorem sloAbsX (nn : Word) : Statement (.sloAbsX nn) := ⟨_, _, rfl, _, rfl, rfl⟩
theorem rlaIndX (n : Byte) : Statement (.rlaIndX n) := ⟨_, _, rfl, _, rfl, rfl⟩
theorem rlaZp (n : Byte) : Statement (.rlaZp n) := ⟨_, _, rfl, _, rfl, rfl⟩
theorem rlaAbs (nn : Word) : Statement (.rlaAbs nn) := ⟨_, _, rfl, _, rfl, rfl⟩
theorem rlaIndY (n : Byte) : Statement (.rlaIndY n) := ⟨_, _, rfl, _, rfl, rfl⟩
theorem rlaZpX (n : Byte) : Statement (.rlaZpX n) := ⟨_, _, rfl, _, rfl, rfl⟩
theorem rlaAbsY (nn : Word) : Statement (.rlaAbsY nn) := ⟨_, _, rfl, _, rfl, rfl⟩
theorem rlaAbsX (nn : Word) : Statement (.rlaAbsX nn) := ⟨_, _, rfl, _, rfl, rfl⟩
theorem sreIndX (n : Byte) : Statement (.sreIndX n) := ⟨_, _, rfl, _, rfl, rfl⟩
theorem sreZp (n : Byte) : Statement (.sreZp n) := ⟨_, _, rfl, _, rfl, rfl⟩
theorem sreAbs (nn : Word) : Statement (.sreAbs nn) := ⟨_, _, rfl, _, rfl, rfl⟩
theorem sreIndY (n : Byte) : Statement (.sreIndY n) := ⟨_, _, rfl, _, rfl, rfl⟩
theorem sreZpX (n : Byte) : Statement (.sreZpX n) := ⟨_, _, rfl, _, rfl, rfl⟩
theorem sreAbsY (nn : Word) : Statement (.sreAbsY nn) := ⟨_, _, rfl, _, rfl, rfl⟩
theorem sreAbsX (nn : Word) : Statement (.sreAbsX nn) := ⟨_, _, rfl, _, rfl, rfl⟩
theorem rraIndX (n : Byte) : Statement (.rraIndX n) := ⟨_, _, rfl, _, rfl, rfl⟩
theorem rraZp (n : Byte) : Statement (.rraZp n) := ⟨_, _, rfl, _, rfl, rfl⟩
theorem rraAbs (nn : Word) : Statement (.rraAbs nn) := ⟨_, _, rfl, _, rfl, rfl⟩
theorem rraIndY (n : Byte) : Statement (.rraIndY n) := ⟨_, _, rfl, _, rfl, rfl⟩
theorem rraZpX (n : Byte) : Statement (.rraZpX n) := ⟨_, _, rfl, _, rfl, rfl⟩
theorem rraAbsY (nn : Word) : Statement (.rraAbsY nn) := ⟨_, _, rfl, _, rfl, rfl⟩
theorem rraAbsX (nn : Word) : Statement (.rraAbsX nn) := ⟨_, _, rfl, _, rfl, rfl⟩
theorem dcpIndX (n : Byte) : Statement (.dcpIndX n) := ⟨_, _, rfl, _, rfl, rfl⟩
theorem dcpZp (n : Byte) : Statement (.dcpZp n) := ⟨_, _, rfl, _, rfl, rfl⟩
theorem dcpAbs (nn : Word) : Statement (.dcpAbs nn) := ⟨_, _, rfl, _, rfl, rfl⟩
theorem dcpIndY (n : Byte) : Statement (.dcpIndY n) := ⟨_, _, rfl, _, rfl, rfl⟩
theorem dcpZpX (n : Byte) : Statement (.dcpZpX n) := ⟨_, _, rfl, _, rfl, rfl⟩
theorem dcpAbsY (nn : Word) : Statement (.dcpAbsY nn) := ⟨_, _, rfl, _, rfl, rfl⟩
theorem dcpAbsX (nn : Word) : Statement (.dcpAbsX nn) := ⟨_, _, rfl, _, rfl, rfl⟩
theorem iscIndX (n : Byte) : Statement (.iscIndX n) := ⟨_, _, rfl, _, rfl, rfl⟩
theorem iscZp (n : Byte) : Statement (.iscZp n) := ⟨_, _, rfl, _, rfl, rfl⟩
theorem iscAbs (nn : Word) : Statement (.iscAbs nn) := ⟨_, _, rfl, _, rfl, rfl⟩
theorem iscIndY (n : Byte) : Statement (.iscIndY n) := ⟨_, _, rfl, _, rfl, rfl⟩
theorem iscZpX (n : Byte) : Statement (.iscZpX n) := ⟨_, _, rfl, _, rfl, rfl⟩
theorem iscAbsY (nn : Word) : Statement (.iscAbsY nn) := ⟨_, _, rfl, _, rfl, rfl⟩
theorem iscAbsX (nn : Word) : Statement (.iscAbsX nn) := ⟨_, _, rfl, _, rfl, rfl⟩
theorem saxIndX (n : Byte) : Statement (.saxIndX n) := ⟨_, _, rfl, _, rfl, rfl⟩
theorem saxZp (n : Byte) : Statement (.saxZp n) := ⟨_, _, rfl, _, rfl, rfl⟩
theorem saxAbs (nn : Word) : Statement (.saxAbs nn) := ⟨_, _, rfl, _, rfl, rfl⟩
theorem saxZpY (n : Byte) : Statement (.saxZpY n) := ⟨_, _, rfl, _, rfl, rfl⟩
theorem laxIndX (n : Byte) : Statement (.laxIndX n) := ⟨_, _, rfl, _, rfl, rfl⟩
theorem laxZp (n : Byte) : Statement (.laxZp n) := ⟨_, _, rfl, _, rfl, rfl⟩
theorem laxAbs (nn : Word) : Statement (.laxAbs nn) := ⟨_, _, rfl, _, rfl, rfl⟩
theorem laxIndY (n : Byte) : Statement (.laxIndY n) := ⟨_, _, rfl, _, rfl, rfl⟩
theorem laxZpY (n : Byte) : Statement (.laxZpY n) := ⟨_, _, rfl, _, rfl, rfl⟩
theorem laxAbsY (nn : Word) : Statement (.laxAbsY nn) := ⟨_, _, rfl, _, rfl, rfl⟩
theorem anc0B (n : Byte) : Statement (.anc0B n) := ⟨_, _, rfl, _, rfl, rfl⟩
theorem anc2B (n : Byte) : Statement (.anc2B n) := ⟨_, _, rfl, _, rfl, rfl⟩
theorem alr (n : Byte) : Statement (.alr n) := ⟨_, _, rfl, _, rfl, rfl⟩
theorem arr (n : Byte) : Statement (.arr n) := ⟨_, _, rfl, _, rfl, rfl⟩
theorem sbx (n : Byte) : Statement (.sbx n) := ⟨_, _, rfl, _, rfl, rfl⟩
theorem usbc (n : Byte) : Statement (.usbc n) := ⟨_, _, rfl, _, rfl, rfl⟩
theorem shaIndY (n : Byte) : Statement (.shaIndY n) := ⟨_, _, rfl, _, rfl, rfl⟩
theorem shaAbsY (nn : Word) : Statement (.shaAbsY nn) := ⟨_, _, rfl, _, rfl, rfl⟩
theorem tas (nn : Word) : Statement (.tas nn) := ⟨_, _, rfl, _, rfl, rfl⟩
theorem shy (nn : Word) : Statement (.shy nn) := ⟨_, _, rfl, _, rfl, rfl⟩
theorem shx (nn : Word) : Statement (.shx nn) := ⟨_, _, rfl, _, rfl, rfl⟩
theorem las (nn : Word) : Statement (.las nn) := ⟨_, _, rfl, _, rfl, rfl⟩
theorem ane : Statement .ane := ⟨_, _, rfl, rfl, rfl⟩
theorem lxa : Statement .lxa := ⟨_, _, rfl, rfl, rfl⟩
theorem nop04 (n : Byte) : Statement (.nop04 n) := ⟨_, _, rfl, _, rfl, rfl⟩
theorem nop0C (nn : Word) : Statement (.nop0C nn) := ⟨_, _, rfl, _, rfl, rfl⟩
theorem nop14 (n : Byte) : Statement (.nop14 n) := ⟨_, _, rfl, _, rfl, rfl⟩
theorem nop1C (nn : Word) : Statement (.nop1C nn) := ⟨_, _, rfl, _, rfl, rfl⟩
theorem nop34 (n : Byte) : Statement (.nop34 n) := ⟨_, _, rfl, _, rfl, rfl⟩
theorem nop3C (nn : Word) : Statement (.nop3C nn) := ⟨_, _, rfl, _, rfl, rfl⟩
theorem nop44 (n : Byte) : Statement (.nop44 n) := ⟨_, _, rfl, _, rfl, rfl⟩
theorem nop54 (n : Byte) : Statement (.nop54 n) := ⟨_, _, rfl, _, rfl, rfl⟩
theorem nop5C (nn : Word) : Statement (.nop5C nn) := ⟨_, _, rfl, _, rfl, rfl⟩
theorem nop64 (n : Byte) : Statement (.nop64 n) := ⟨_, _, rfl, _, rfl, rfl⟩
theorem nop74 (n : Byte) : Statement (.nop74 n) := ⟨_, _, rfl, _, rfl, rfl⟩
theorem nop7C (nn : Word) : Statement (.nop7C nn) := ⟨_, _, rfl, _, rfl, rfl⟩
theorem nopD4 (n : Byte) : Statement (.nopD4 n) := ⟨_, _, rfl, _, rfl, rfl⟩
theorem nopDC (nn : Word) : Statement (.nopDC nn) := ⟨_, _, rfl, _, rfl, rfl⟩
theorem nopF4 (n : Byte) : Statement (.nopF4 n) := ⟨_, _, rfl, _, rfl, rfl⟩
theorem nopFC (nn : Word) : Statement (.nopFC nn) := ⟨_, _, rfl, _, rfl, rfl⟩
theorem nop1A : Statement .nop1A := ⟨_, _, rfl, rfl, rfl⟩
theorem nop3A : Statement .nop3A := ⟨_, _, rfl, rfl, rfl⟩
theorem nop5A : Statement .nop5A := ⟨_, _, rfl, rfl, rfl⟩
theorem nop7A : Statement .nop7A := ⟨_, _, rfl, rfl, rfl⟩
theorem nop80 : Statement .nop80 := ⟨_, _, rfl, rfl, rfl⟩
theorem nop82 : Statement .nop82 := ⟨_, _, rfl, rfl, rfl⟩
theorem nop89 : Statement .nop89 := ⟨_, _, rfl, rfl, rfl⟩
theorem nopC2 : Statement .nopC2 := ⟨_, _, rfl, rfl, rfl⟩
theorem nopDA : Statement .nopDA := ⟨_, _, rfl, rfl, rfl⟩
theorem nopE2 : Statement .nopE2 := ⟨_, _, rfl, rfl, rfl⟩
theorem nopFA : Statement .nopFA := ⟨_, _, rfl, rfl, rfl⟩
theorem jam02 : Statement .jam02 := ⟨_, _, rfl, rfl, rfl⟩
theorem jam12 : Statement .jam12 := ⟨_, _, rfl, rfl, rfl⟩
theorem jam22 : Statement .jam22 := ⟨_, _, rfl, rfl, rfl⟩
theorem jam32 : Statement .jam32 := ⟨_, _, rfl, rfl, rfl⟩
theorem jam42 : Statement .jam42 := ⟨_, _, rfl, rfl, rfl⟩
theorem jam52 : Statement .jam52 := ⟨_, _, rfl, rfl, rfl⟩
theorem jam62 : Statement .jam62 := ⟨_, _, rfl, rfl, rfl⟩
theorem jam72 : Statement .jam72 := ⟨_, _, rfl, rfl, rfl⟩
theorem jam92 : Statement .jam92 := ⟨_, _, rfl, rfl, rfl⟩
theorem jamB2 : Statement .jamB2 := ⟨_, _, rfl, rfl, rfl⟩
theorem jamD2 : Statement .jamD2 := ⟨_, _, rfl, rfl, rfl⟩
theorem jamF2 : Statement .jamF2 := ⟨_, _, rfl, rfl, rfl⟩

end Sys2Proof.Laws.EncodedForm
end

