-- ==== Sys2Proof/Tests/Slice0.lean ====
section
/-! SUPPORT. The model's own tests: the well-formedness checks refuse ill-formed Bus maps and Memories; the words of every
opcode decode; the vectors of spec 95_test_vectors, one step each; a program placed after reset; and a witness for each
statement that has hypotheses. -/

namespace Sys2Proof.Tests

open Sys2Proof.Machine Sys2Proof.Claims

/-! ### Helpers -/

/-- A state of the flat test bus (spec 20_memory R61): the registers, PC, and the memory that holds `cells`. -/
def flatState (a x y sp p : Byte) (pc : Word) (cells : List Host.Cell) : State :=
  { State.reset with
    a := a, x := x, y := y, sp := sp, p := Status.ofByte p, pc := pc
    memories := [{ blankFlatRam with cells := cells }], peripherals := [], cfg := Config.flat }

/-- A, X, Y, S, P, PC and the cycles after one step. -/
def regsAfter (s : State) : Option (List Nat) :=
  match step s with
  | .next t => some [t.a.toNat, t.x.toNat, t.y.toNat, t.sp.toNat, t.p.toByte.toNat, t.pc.toNat, t.total - s.total]
  | .fault _ => none
  | .refused _ => none

/-- The bytes at some addresses after one step. -/
def bytesAfter (s : State) (addrs : List Word) : List (Option Byte) :=
  match step s with
  | .next t => addrs.map (peek t)
  | .fault _ => []
  | .refused _ => []

/-- What a step refuses with. -/
def refusalOf (s : State) : Option Refusal :=
  match step s with
  | .next _ => none
  | .fault _ => none
  | .refused r => some r

/-! ### The well-formedness checks refuse ill-formed terms -/

theorem test_wf_accepts_the_two_bus_maps : Config.console.busWf = true ∧ Config.flat.busWf = true := by decide

/-- Two ranges overlap. -/
theorem test_wf_refuses_overlap :
    ({ Config.flat with busMap := [⟨0, 0, .fallback⟩, ⟨0x8000, 0x8000, .fallback⟩] } : Config).busWf = false := by decide

/-- The lower half of the space has no range. -/
theorem test_wf_refuses_a_hole :
    ({ Config.flat with busMap := [⟨0x8000, 0x8000, .fallback⟩] } : Config).busWf = false := by decide

/-- A range tests line 15, which the console's Bus does not keep. -/
theorem test_wf_refuses_a_masked_line : BusRange.wf 0x1FFF ⟨0x8000, 0x0000, .fallback⟩ = false := by decide

/-- A range asks a value of a line it does not test. -/
theorem test_wf_refuses_an_impossible_value : BusRange.wf 0xFFFF ⟨0x1000, 0x2000, .fallback⟩ = false := by decide

/-- A Memory with no cell. -/
theorem test_wf_refuses_an_empty_memory : ({ blankRam with cap := 0 } : Memory).wf = false := by decide

/-- Indices that do not rise; a listed default byte; an index beyond the capacity. -/
theorem test_wf_refuses_bad_cells :
    ({ blankRam with cells := [(5, 1), (5, 2)] } : Memory).wf = false ∧
    ({ blankRam with cells := [(5, 1), (4, 2)] } : Memory).wf = false ∧
    ({ blankRam with cells := [(5, 0)] } : Memory).wf = false ∧
    ({ blankRam with cells := [(128, 1)] } : Memory).wf = false := by decide

/-- A map that names a Memory or a peripheral that is not there. -/
theorem test_wf_refuses_a_missing_target :
    ({ State.reset with memories := [blankRom] } : State).wf = false ∧
    ({ State.reset with peripherals := [] } : State).wf = false := by decide

/-! ### The words of every opcode, from spec/opcode_table.json, one theorem per row of the opcode matrix -/

theorem test_decode_row_0 :
    decode [0x00, 0x34] = .ok (.brk, []) ∧ decode [0x01, 0x34] = .ok (.oraIndX 0x34, []) ∧
    decode [0x02] = .ok (.jam02, []) ∧ decode [0x03, 0x34] = .ok (.sloIndX 0x34, []) ∧
    decode [0x04, 0x34] = .ok (.nop04 0x34, []) ∧ decode [0x05, 0x34] = .ok (.oraZp 0x34, []) ∧
    decode [0x06, 0x34] = .ok (.aslZp 0x34, []) ∧ decode [0x07, 0x34] = .ok (.sloZp 0x34, []) ∧
    decode [0x08] = .ok (.php, []) ∧ decode [0x09, 0x34] = .ok (.oraImm 0x34, []) ∧
    decode [0x0A] = .ok (.aslAcc, []) ∧ decode [0x0B, 0x34] = .ok (.anc0B 0x34, []) ∧
    decode [0x0C, 0x34, 0x12] = .ok (.nop0C 0x1234, []) ∧ decode [0x0D, 0x34, 0x12] = .ok (.oraAbs 0x1234, []) ∧
    decode [0x0E, 0x34, 0x12] = .ok (.aslAbs 0x1234, []) ∧ decode [0x0F, 0x34, 0x12] = .ok (.sloAbs 0x1234, []) :=
  ⟨rfl, rfl, rfl, rfl, rfl, rfl, rfl, rfl, rfl, rfl, rfl, rfl, rfl, rfl, rfl, rfl⟩

theorem test_decode_row_1 :
    decode [0x10, 0x34] = .ok (.bpl 0x34, []) ∧ decode [0x11, 0x34] = .ok (.oraIndY 0x34, []) ∧
    decode [0x12] = .ok (.jam12, []) ∧ decode [0x13, 0x34] = .ok (.sloIndY 0x34, []) ∧
    decode [0x14, 0x34] = .ok (.nop14 0x34, []) ∧ decode [0x15, 0x34] = .ok (.oraZpX 0x34, []) ∧
    decode [0x16, 0x34] = .ok (.aslZpX 0x34, []) ∧ decode [0x17, 0x34] = .ok (.sloZpX 0x34, []) ∧
    decode [0x18] = .ok (.clc, []) ∧ decode [0x19, 0x34, 0x12] = .ok (.oraAbsY 0x1234, []) ∧
    decode [0x1A] = .ok (.nop1A, []) ∧ decode [0x1B, 0x34, 0x12] = .ok (.sloAbsY 0x1234, []) ∧
    decode [0x1C, 0x34, 0x12] = .ok (.nop1C 0x1234, []) ∧ decode [0x1D, 0x34, 0x12] = .ok (.oraAbsX 0x1234, []) ∧
    decode [0x1E, 0x34, 0x12] = .ok (.aslAbsX 0x1234, []) ∧ decode [0x1F, 0x34, 0x12] = .ok (.sloAbsX 0x1234, []) :=
  ⟨rfl, rfl, rfl, rfl, rfl, rfl, rfl, rfl, rfl, rfl, rfl, rfl, rfl, rfl, rfl, rfl⟩

theorem test_decode_row_2 :
    decode [0x20, 0x34, 0x12] = .ok (.jsr 0x1234, []) ∧ decode [0x21, 0x34] = .ok (.andIndX 0x34, []) ∧
    decode [0x22] = .ok (.jam22, []) ∧ decode [0x23, 0x34] = .ok (.rlaIndX 0x34, []) ∧
    decode [0x24, 0x34] = .ok (.bitZp 0x34, []) ∧ decode [0x25, 0x34] = .ok (.andZp 0x34, []) ∧
    decode [0x26, 0x34] = .ok (.rolZp 0x34, []) ∧ decode [0x27, 0x34] = .ok (.rlaZp 0x34, []) ∧
    decode [0x28] = .ok (.plp, []) ∧ decode [0x29, 0x34] = .ok (.andImm 0x34, []) ∧
    decode [0x2A] = .ok (.rolAcc, []) ∧ decode [0x2B, 0x34] = .ok (.anc2B 0x34, []) ∧
    decode [0x2C, 0x34, 0x12] = .ok (.bitAbs 0x1234, []) ∧ decode [0x2D, 0x34, 0x12] = .ok (.andAbs 0x1234, []) ∧
    decode [0x2E, 0x34, 0x12] = .ok (.rolAbs 0x1234, []) ∧ decode [0x2F, 0x34, 0x12] = .ok (.rlaAbs 0x1234, []) :=
  ⟨rfl, rfl, rfl, rfl, rfl, rfl, rfl, rfl, rfl, rfl, rfl, rfl, rfl, rfl, rfl, rfl⟩

theorem test_decode_row_3 :
    decode [0x30, 0x34] = .ok (.bmi 0x34, []) ∧ decode [0x31, 0x34] = .ok (.andIndY 0x34, []) ∧
    decode [0x32] = .ok (.jam32, []) ∧ decode [0x33, 0x34] = .ok (.rlaIndY 0x34, []) ∧
    decode [0x34, 0x34] = .ok (.nop34 0x34, []) ∧ decode [0x35, 0x34] = .ok (.andZpX 0x34, []) ∧
    decode [0x36, 0x34] = .ok (.rolZpX 0x34, []) ∧ decode [0x37, 0x34] = .ok (.rlaZpX 0x34, []) ∧
    decode [0x38] = .ok (.sec, []) ∧ decode [0x39, 0x34, 0x12] = .ok (.andAbsY 0x1234, []) ∧
    decode [0x3A] = .ok (.nop3A, []) ∧ decode [0x3B, 0x34, 0x12] = .ok (.rlaAbsY 0x1234, []) ∧
    decode [0x3C, 0x34, 0x12] = .ok (.nop3C 0x1234, []) ∧ decode [0x3D, 0x34, 0x12] = .ok (.andAbsX 0x1234, []) ∧
    decode [0x3E, 0x34, 0x12] = .ok (.rolAbsX 0x1234, []) ∧ decode [0x3F, 0x34, 0x12] = .ok (.rlaAbsX 0x1234, []) :=
  ⟨rfl, rfl, rfl, rfl, rfl, rfl, rfl, rfl, rfl, rfl, rfl, rfl, rfl, rfl, rfl, rfl⟩

theorem test_decode_row_4 :
    decode [0x40] = .ok (.rti, []) ∧ decode [0x41, 0x34] = .ok (.eorIndX 0x34, []) ∧
    decode [0x42] = .ok (.jam42, []) ∧ decode [0x43, 0x34] = .ok (.sreIndX 0x34, []) ∧
    decode [0x44, 0x34] = .ok (.nop44 0x34, []) ∧ decode [0x45, 0x34] = .ok (.eorZp 0x34, []) ∧
    decode [0x46, 0x34] = .ok (.lsrZp 0x34, []) ∧ decode [0x47, 0x34] = .ok (.sreZp 0x34, []) ∧
    decode [0x48] = .ok (.pha, []) ∧ decode [0x49, 0x34] = .ok (.eorImm 0x34, []) ∧
    decode [0x4A] = .ok (.lsrAcc, []) ∧ decode [0x4B, 0x34] = .ok (.alr 0x34, []) ∧
    decode [0x4C, 0x34, 0x12] = .ok (.jmpAbs 0x1234, []) ∧ decode [0x4D, 0x34, 0x12] = .ok (.eorAbs 0x1234, []) ∧
    decode [0x4E, 0x34, 0x12] = .ok (.lsrAbs 0x1234, []) ∧ decode [0x4F, 0x34, 0x12] = .ok (.sreAbs 0x1234, []) :=
  ⟨rfl, rfl, rfl, rfl, rfl, rfl, rfl, rfl, rfl, rfl, rfl, rfl, rfl, rfl, rfl, rfl⟩

theorem test_decode_row_5 :
    decode [0x50, 0x34] = .ok (.bvc 0x34, []) ∧ decode [0x51, 0x34] = .ok (.eorIndY 0x34, []) ∧
    decode [0x52] = .ok (.jam52, []) ∧ decode [0x53, 0x34] = .ok (.sreIndY 0x34, []) ∧
    decode [0x54, 0x34] = .ok (.nop54 0x34, []) ∧ decode [0x55, 0x34] = .ok (.eorZpX 0x34, []) ∧
    decode [0x56, 0x34] = .ok (.lsrZpX 0x34, []) ∧ decode [0x57, 0x34] = .ok (.sreZpX 0x34, []) ∧
    decode [0x58] = .ok (.cli, []) ∧ decode [0x59, 0x34, 0x12] = .ok (.eorAbsY 0x1234, []) ∧
    decode [0x5A] = .ok (.nop5A, []) ∧ decode [0x5B, 0x34, 0x12] = .ok (.sreAbsY 0x1234, []) ∧
    decode [0x5C, 0x34, 0x12] = .ok (.nop5C 0x1234, []) ∧ decode [0x5D, 0x34, 0x12] = .ok (.eorAbsX 0x1234, []) ∧
    decode [0x5E, 0x34, 0x12] = .ok (.lsrAbsX 0x1234, []) ∧ decode [0x5F, 0x34, 0x12] = .ok (.sreAbsX 0x1234, []) :=
  ⟨rfl, rfl, rfl, rfl, rfl, rfl, rfl, rfl, rfl, rfl, rfl, rfl, rfl, rfl, rfl, rfl⟩

theorem test_decode_row_6 :
    decode [0x60] = .ok (.rts, []) ∧ decode [0x61, 0x34] = .ok (.adcIndX 0x34, []) ∧
    decode [0x62] = .ok (.jam62, []) ∧ decode [0x63, 0x34] = .ok (.rraIndX 0x34, []) ∧
    decode [0x64, 0x34] = .ok (.nop64 0x34, []) ∧ decode [0x65, 0x34] = .ok (.adcZp 0x34, []) ∧
    decode [0x66, 0x34] = .ok (.rorZp 0x34, []) ∧ decode [0x67, 0x34] = .ok (.rraZp 0x34, []) ∧
    decode [0x68] = .ok (.pla, []) ∧ decode [0x69, 0x34] = .ok (.adcImm 0x34, []) ∧
    decode [0x6A] = .ok (.rorAcc, []) ∧ decode [0x6B, 0x34] = .ok (.arr 0x34, []) ∧
    decode [0x6C, 0x34, 0x12] = .ok (.jmpInd 0x1234, []) ∧ decode [0x6D, 0x34, 0x12] = .ok (.adcAbs 0x1234, []) ∧
    decode [0x6E, 0x34, 0x12] = .ok (.rorAbs 0x1234, []) ∧ decode [0x6F, 0x34, 0x12] = .ok (.rraAbs 0x1234, []) :=
  ⟨rfl, rfl, rfl, rfl, rfl, rfl, rfl, rfl, rfl, rfl, rfl, rfl, rfl, rfl, rfl, rfl⟩

theorem test_decode_row_7 :
    decode [0x70, 0x34] = .ok (.bvs 0x34, []) ∧ decode [0x71, 0x34] = .ok (.adcIndY 0x34, []) ∧
    decode [0x72] = .ok (.jam72, []) ∧ decode [0x73, 0x34] = .ok (.rraIndY 0x34, []) ∧
    decode [0x74, 0x34] = .ok (.nop74 0x34, []) ∧ decode [0x75, 0x34] = .ok (.adcZpX 0x34, []) ∧
    decode [0x76, 0x34] = .ok (.rorZpX 0x34, []) ∧ decode [0x77, 0x34] = .ok (.rraZpX 0x34, []) ∧
    decode [0x78] = .ok (.sei, []) ∧ decode [0x79, 0x34, 0x12] = .ok (.adcAbsY 0x1234, []) ∧
    decode [0x7A] = .ok (.nop7A, []) ∧ decode [0x7B, 0x34, 0x12] = .ok (.rraAbsY 0x1234, []) ∧
    decode [0x7C, 0x34, 0x12] = .ok (.nop7C 0x1234, []) ∧ decode [0x7D, 0x34, 0x12] = .ok (.adcAbsX 0x1234, []) ∧
    decode [0x7E, 0x34, 0x12] = .ok (.rorAbsX 0x1234, []) ∧ decode [0x7F, 0x34, 0x12] = .ok (.rraAbsX 0x1234, []) :=
  ⟨rfl, rfl, rfl, rfl, rfl, rfl, rfl, rfl, rfl, rfl, rfl, rfl, rfl, rfl, rfl, rfl⟩

theorem test_decode_row_8 :
    decode [0x80, 0x34] = .ok (.nop80, []) ∧ decode [0x81, 0x34] = .ok (.staIndX 0x34, []) ∧
    decode [0x82, 0x34] = .ok (.nop82, []) ∧ decode [0x83, 0x34] = .ok (.saxIndX 0x34, []) ∧
    decode [0x84, 0x34] = .ok (.styZp 0x34, []) ∧ decode [0x85, 0x34] = .ok (.staZp 0x34, []) ∧
    decode [0x86, 0x34] = .ok (.stxZp 0x34, []) ∧ decode [0x87, 0x34] = .ok (.saxZp 0x34, []) ∧
    decode [0x88] = .ok (.dey, []) ∧ decode [0x89, 0x34] = .ok (.nop89, []) ∧
    decode [0x8A] = .ok (.txa, []) ∧ decode [0x8B, 0x34] = .ok (.ane, []) ∧
    decode [0x8C, 0x34, 0x12] = .ok (.styAbs 0x1234, []) ∧ decode [0x8D, 0x34, 0x12] = .ok (.staAbs 0x1234, []) ∧
    decode [0x8E, 0x34, 0x12] = .ok (.stxAbs 0x1234, []) ∧ decode [0x8F, 0x34, 0x12] = .ok (.saxAbs 0x1234, []) :=
  ⟨rfl, rfl, rfl, rfl, rfl, rfl, rfl, rfl, rfl, rfl, rfl, rfl, rfl, rfl, rfl, rfl⟩

theorem test_decode_row_9 :
    decode [0x90, 0x34] = .ok (.bcc 0x34, []) ∧ decode [0x91, 0x34] = .ok (.staIndY 0x34, []) ∧
    decode [0x92] = .ok (.jam92, []) ∧ decode [0x93, 0x34] = .ok (.shaIndY 0x34, []) ∧
    decode [0x94, 0x34] = .ok (.styZpX 0x34, []) ∧ decode [0x95, 0x34] = .ok (.staZpX 0x34, []) ∧
    decode [0x96, 0x34] = .ok (.stxZpY 0x34, []) ∧ decode [0x97, 0x34] = .ok (.saxZpY 0x34, []) ∧
    decode [0x98] = .ok (.tya, []) ∧ decode [0x99, 0x34, 0x12] = .ok (.staAbsY 0x1234, []) ∧
    decode [0x9A] = .ok (.txs, []) ∧ decode [0x9B, 0x34, 0x12] = .ok (.tas 0x1234, []) ∧
    decode [0x9C, 0x34, 0x12] = .ok (.shy 0x1234, []) ∧ decode [0x9D, 0x34, 0x12] = .ok (.staAbsX 0x1234, []) ∧
    decode [0x9E, 0x34, 0x12] = .ok (.shx 0x1234, []) ∧ decode [0x9F, 0x34, 0x12] = .ok (.shaAbsY 0x1234, []) :=
  ⟨rfl, rfl, rfl, rfl, rfl, rfl, rfl, rfl, rfl, rfl, rfl, rfl, rfl, rfl, rfl, rfl⟩

theorem test_decode_row_A :
    decode [0xA0, 0x34] = .ok (.ldyImm 0x34, []) ∧ decode [0xA1, 0x34] = .ok (.ldaIndX 0x34, []) ∧
    decode [0xA2, 0x34] = .ok (.ldxImm 0x34, []) ∧ decode [0xA3, 0x34] = .ok (.laxIndX 0x34, []) ∧
    decode [0xA4, 0x34] = .ok (.ldyZp 0x34, []) ∧ decode [0xA5, 0x34] = .ok (.ldaZp 0x34, []) ∧
    decode [0xA6, 0x34] = .ok (.ldxZp 0x34, []) ∧ decode [0xA7, 0x34] = .ok (.laxZp 0x34, []) ∧
    decode [0xA8] = .ok (.tay, []) ∧ decode [0xA9, 0x34] = .ok (.ldaImm 0x34, []) ∧
    decode [0xAA] = .ok (.tax, []) ∧ decode [0xAB, 0x34] = .ok (.lxa, []) ∧
    decode [0xAC, 0x34, 0x12] = .ok (.ldyAbs 0x1234, []) ∧ decode [0xAD, 0x34, 0x12] = .ok (.ldaAbs 0x1234, []) ∧
    decode [0xAE, 0x34, 0x12] = .ok (.ldxAbs 0x1234, []) ∧ decode [0xAF, 0x34, 0x12] = .ok (.laxAbs 0x1234, []) :=
  ⟨rfl, rfl, rfl, rfl, rfl, rfl, rfl, rfl, rfl, rfl, rfl, rfl, rfl, rfl, rfl, rfl⟩

theorem test_decode_row_B :
    decode [0xB0, 0x34] = .ok (.bcs 0x34, []) ∧ decode [0xB1, 0x34] = .ok (.ldaIndY 0x34, []) ∧
    decode [0xB2] = .ok (.jamB2, []) ∧ decode [0xB3, 0x34] = .ok (.laxIndY 0x34, []) ∧
    decode [0xB4, 0x34] = .ok (.ldyZpX 0x34, []) ∧ decode [0xB5, 0x34] = .ok (.ldaZpX 0x34, []) ∧
    decode [0xB6, 0x34] = .ok (.ldxZpY 0x34, []) ∧ decode [0xB7, 0x34] = .ok (.laxZpY 0x34, []) ∧
    decode [0xB8] = .ok (.clv, []) ∧ decode [0xB9, 0x34, 0x12] = .ok (.ldaAbsY 0x1234, []) ∧
    decode [0xBA] = .ok (.tsx, []) ∧ decode [0xBB, 0x34, 0x12] = .ok (.las 0x1234, []) ∧
    decode [0xBC, 0x34, 0x12] = .ok (.ldyAbsX 0x1234, []) ∧ decode [0xBD, 0x34, 0x12] = .ok (.ldaAbsX 0x1234, []) ∧
    decode [0xBE, 0x34, 0x12] = .ok (.ldxAbsY 0x1234, []) ∧ decode [0xBF, 0x34, 0x12] = .ok (.laxAbsY 0x1234, []) :=
  ⟨rfl, rfl, rfl, rfl, rfl, rfl, rfl, rfl, rfl, rfl, rfl, rfl, rfl, rfl, rfl, rfl⟩

theorem test_decode_row_C :
    decode [0xC0, 0x34] = .ok (.cpyImm 0x34, []) ∧ decode [0xC1, 0x34] = .ok (.cmpIndX 0x34, []) ∧
    decode [0xC2, 0x34] = .ok (.nopC2, []) ∧ decode [0xC3, 0x34] = .ok (.dcpIndX 0x34, []) ∧
    decode [0xC4, 0x34] = .ok (.cpyZp 0x34, []) ∧ decode [0xC5, 0x34] = .ok (.cmpZp 0x34, []) ∧
    decode [0xC6, 0x34] = .ok (.decZp 0x34, []) ∧ decode [0xC7, 0x34] = .ok (.dcpZp 0x34, []) ∧
    decode [0xC8] = .ok (.iny, []) ∧ decode [0xC9, 0x34] = .ok (.cmpImm 0x34, []) ∧
    decode [0xCA] = .ok (.dex, []) ∧ decode [0xCB, 0x34] = .ok (.sbx 0x34, []) ∧
    decode [0xCC, 0x34, 0x12] = .ok (.cpyAbs 0x1234, []) ∧ decode [0xCD, 0x34, 0x12] = .ok (.cmpAbs 0x1234, []) ∧
    decode [0xCE, 0x34, 0x12] = .ok (.decAbs 0x1234, []) ∧ decode [0xCF, 0x34, 0x12] = .ok (.dcpAbs 0x1234, []) :=
  ⟨rfl, rfl, rfl, rfl, rfl, rfl, rfl, rfl, rfl, rfl, rfl, rfl, rfl, rfl, rfl, rfl⟩

theorem test_decode_row_D :
    decode [0xD0, 0x34] = .ok (.bne 0x34, []) ∧ decode [0xD1, 0x34] = .ok (.cmpIndY 0x34, []) ∧
    decode [0xD2] = .ok (.jamD2, []) ∧ decode [0xD3, 0x34] = .ok (.dcpIndY 0x34, []) ∧
    decode [0xD4, 0x34] = .ok (.nopD4 0x34, []) ∧ decode [0xD5, 0x34] = .ok (.cmpZpX 0x34, []) ∧
    decode [0xD6, 0x34] = .ok (.decZpX 0x34, []) ∧ decode [0xD7, 0x34] = .ok (.dcpZpX 0x34, []) ∧
    decode [0xD8] = .ok (.cld, []) ∧ decode [0xD9, 0x34, 0x12] = .ok (.cmpAbsY 0x1234, []) ∧
    decode [0xDA] = .ok (.nopDA, []) ∧ decode [0xDB, 0x34, 0x12] = .ok (.dcpAbsY 0x1234, []) ∧
    decode [0xDC, 0x34, 0x12] = .ok (.nopDC 0x1234, []) ∧ decode [0xDD, 0x34, 0x12] = .ok (.cmpAbsX 0x1234, []) ∧
    decode [0xDE, 0x34, 0x12] = .ok (.decAbsX 0x1234, []) ∧ decode [0xDF, 0x34, 0x12] = .ok (.dcpAbsX 0x1234, []) :=
  ⟨rfl, rfl, rfl, rfl, rfl, rfl, rfl, rfl, rfl, rfl, rfl, rfl, rfl, rfl, rfl, rfl⟩

theorem test_decode_row_E :
    decode [0xE0, 0x34] = .ok (.cpxImm 0x34, []) ∧ decode [0xE1, 0x34] = .ok (.sbcIndX 0x34, []) ∧
    decode [0xE2, 0x34] = .ok (.nopE2, []) ∧ decode [0xE3, 0x34] = .ok (.iscIndX 0x34, []) ∧
    decode [0xE4, 0x34] = .ok (.cpxZp 0x34, []) ∧ decode [0xE5, 0x34] = .ok (.sbcZp 0x34, []) ∧
    decode [0xE6, 0x34] = .ok (.incZp 0x34, []) ∧ decode [0xE7, 0x34] = .ok (.iscZp 0x34, []) ∧
    decode [0xE8] = .ok (.inx, []) ∧ decode [0xE9, 0x34] = .ok (.sbcImm 0x34, []) ∧
    decode [0xEA] = .ok (.nop, []) ∧ decode [0xEB, 0x34] = .ok (.usbc 0x34, []) ∧
    decode [0xEC, 0x34, 0x12] = .ok (.cpxAbs 0x1234, []) ∧ decode [0xED, 0x34, 0x12] = .ok (.sbcAbs 0x1234, []) ∧
    decode [0xEE, 0x34, 0x12] = .ok (.incAbs 0x1234, []) ∧ decode [0xEF, 0x34, 0x12] = .ok (.iscAbs 0x1234, []) :=
  ⟨rfl, rfl, rfl, rfl, rfl, rfl, rfl, rfl, rfl, rfl, rfl, rfl, rfl, rfl, rfl, rfl⟩

theorem test_decode_row_F :
    decode [0xF0, 0x34] = .ok (.beq 0x34, []) ∧ decode [0xF1, 0x34] = .ok (.sbcIndY 0x34, []) ∧
    decode [0xF2] = .ok (.jamF2, []) ∧ decode [0xF3, 0x34] = .ok (.iscIndY 0x34, []) ∧
    decode [0xF4, 0x34] = .ok (.nopF4 0x34, []) ∧ decode [0xF5, 0x34] = .ok (.sbcZpX 0x34, []) ∧
    decode [0xF6, 0x34] = .ok (.incZpX 0x34, []) ∧ decode [0xF7, 0x34] = .ok (.iscZpX 0x34, []) ∧
    decode [0xF8] = .ok (.sed, []) ∧ decode [0xF9, 0x34, 0x12] = .ok (.sbcAbsY 0x1234, []) ∧
    decode [0xFA] = .ok (.nopFA, []) ∧ decode [0xFB, 0x34, 0x12] = .ok (.iscAbsY 0x1234, []) ∧
    decode [0xFC, 0x34, 0x12] = .ok (.nopFC 0x1234, []) ∧ decode [0xFD, 0x34, 0x12] = .ok (.sbcAbsX 0x1234, []) ∧
    decode [0xFE, 0x34, 0x12] = .ok (.incAbsX 0x1234, []) ∧ decode [0xFF, 0x34, 0x12] = .ok (.iscAbsX 0x1234, []) :=
  ⟨rfl, rfl, rfl, rfl, rfl, rfl, rfl, rfl, rfl, rfl, rfl, rfl, rfl, rfl, rfl, rfl⟩

/-! ### Words written out bit by bit (spec 30_encoding R92, R95, R99): one per family -/

/-- LDA (zero-page),Y. -/
theorem test_word_load : decode [0b10110001, 0b00100000] = .ok (.ldaIndY 0x20, []) := rfl

/-- STA absolute,X. -/
theorem test_word_store : decode [0b10011101, 0b00000000, 0b00000010] = .ok (.staAbsX 0x0200, []) := rfl

/-- TXS. -/
theorem test_word_transfer : decode [0b10011010] = .ok (.txs, []) := rfl

/-- PHP. -/
theorem test_word_stack : decode [0b00001000] = .ok (.php, []) := rfl

/-- SBC (zero-page,X). -/
theorem test_word_alu : decode [0b11100001, 0b11111111] = .ok (.sbcIndX 0xFF, []) := rfl

/-- ROR zero-page,X. -/
theorem test_word_shift : decode [0b01110110, 0b10000000] = .ok (.rorZpX 0x80, []) := rfl

/-- JMP indirect, its pointer low byte first. -/
theorem test_word_jump : decode [0b01101100, 0b11111111, 0b00110000] = .ok (.jmpInd 0x30FF, []) := rfl

/-- BNE with displacement -5. -/
theorem test_word_branch : decode [0b11010000, 0b11111011] = .ok (.bne 0xFB, []) := rfl

/-- SEI. -/
theorem test_word_flag : decode [0b01111000] = .ok (.sei, []) := rfl

/-- DCP absolute,Y. -/
theorem test_word_undocumented : decode [0b11011011, 0b11001101, 0b10101011] = .ok (.dcpAbsY 0xABCD, []) := rfl

/-- TAS absolute,Y. -/
theorem test_word_unstable : decode [0b10011011, 0b00000001, 0b10000000] = .ok (.tas 0x8001, []) := rfl

/-- JAM. -/
theorem test_word_jam : decode [0b11110010] = .ok (.jamF2, []) := rfl

/-- No instruction is read from too few bytes. -/
theorem test_decode_truncated : decode [] = .error .opcodeMissing ∧ decode [0xA9] = .error (.operandMissing 0xA9) ∧
    decode [0x4C, 0x00] = .error (.operandMissing 0x4C) := ⟨rfl, rfl, rfl⟩

/-- A skipped byte is passed over, whatever it is (spec 45_control R223, 47_illegal R253). -/
theorem test_encode_skipped : encode .brk = [0x00, 0x00] ∧ encode (.staAbsX 0x0200) = [0x9D, 0x00, 0x02] := by decide

/-! ### Vectors of spec 95_test_vectors: one step on the flat test bus -/

/-- LDA immediate, vector E1.4. -/
theorem test_ldaImm_e1_4 :
    regsAfter (flatState 0x00 0x00 0x00 0xFF 0x6D 0x0200 [(0x0200, 0xA9), (0x0201, 0x80)]) =
      some [0x80, 0x00, 0x00, 0xFF, 0xED, 0x0202, 2] := by decide

/-- LDA absolute,X, vector E2.1. -/
theorem test_ldaAbsX_e2_1 :
    regsAfter (flatState 0x00 0x10 0x00 0xFF 0x20 0x0200 [(0x0200, 0xBD), (0x0201, 0xF0), (0x0202, 0x12), (0x1300, 0x5A)]) =
      some [0x5A, 0x10, 0x00, 0xFF, 0x20, 0x0203, 5] := by decide

/-- LDX zero-page,Y, vector E3.3. -/
theorem test_ldxZpY_e3_3 :
    regsAfter (flatState 0x00 0x00 0x20 0xFF 0x20 0x0200 [(0x0010, 0x33), (0x0110, 0xEE), (0x0200, 0xB6), (0x0201, 0xF0)]) =
      some [0x00, 0x33, 0x20, 0xFF, 0x20, 0x0202, 4] := by decide

/-- LDX absolute,Y, vector V32. -/
theorem test_ldxAbsY_v32 :
    regsAfter (flatState 0x00 0x00 0x01 0xFF 0x20 0x0200 [(0x0200, 0xBE), (0x0201, 0xFF)]) =
      some [0x00, 0x00, 0x01, 0xFF, 0x22, 0x0203, 5] := by decide

/-- LDY immediate, vector V22. -/
theorem test_ldyImm_v22 :
    regsAfter (flatState 0x00 0x00 0x00 0xFF 0xA2 0x0200 [(0x0200, 0xA0), (0x0201, 0x7F)]) =
      some [0x00, 0x00, 0x7F, 0xFF, 0x20, 0x0202, 2] := by decide

/-- LDY absolute,X, vector V33. -/
theorem test_ldyAbsX_v33 :
    regsAfter (flatState 0x00 0x80 0x00 0xFF 0x20 0x0200 [(0x0100, 0x01), (0x0200, 0xBC), (0x0201, 0x80)]) =
      some [0x00, 0x80, 0x01, 0xFF, 0x20, 0x0203, 5] := by decide

/-- STA zero-page,X, vector E3.4. -/
theorem test_staZpX_e3_4 :
    regsAfter (flatState 0x44 0x50 0x00 0xFF 0x20 0x0200 [(0x0200, 0x95), (0x0201, 0xC0)]) =
      some [0x44, 0x50, 0x00, 0xFF, 0x20, 0x0202, 4] ∧
    bytesAfter (flatState 0x44 0x50 0x00 0xFF 0x20 0x0200 [(0x0200, 0x95), (0x0201, 0xC0)]) [0x0010] = [some 0x44] := by decide

/-- STA absolute,X, vector V14. -/
theorem test_staAbsX_v14 :
    regsAfter (flatState 0x5A 0x10 0x00 0xFF 0x20 0x0200 [(0x0200, 0x9D), (0x0201, 0xF0), (0x0202, 0x12)]) =
      some [0x5A, 0x10, 0x00, 0xFF, 0x20, 0x0203, 5] ∧
    bytesAfter (flatState 0x5A 0x10 0x00 0xFF 0x20 0x0200 [(0x0200, 0x9D), (0x0201, 0xF0), (0x0202, 0x12)]) [0x1300] = [some 0x5A] := by decide

/-- STX zero-page,Y, vector V24. -/
theorem test_stxZpY_v24 :
    regsAfter (flatState 0x00 0x07 0x01 0xFF 0x20 0x0200 [(0x0200, 0x96), (0x0201, 0xFF)]) =
      some [0x00, 0x07, 0x01, 0xFF, 0x20, 0x0202, 4] ∧
    bytesAfter (flatState 0x00 0x07 0x01 0xFF 0x20 0x0200 [(0x0200, 0x96), (0x0201, 0xFF)]) [0x0000] = [some 0x07] := by decide

/-- STY absolute, vector V25. -/
theorem test_styAbs_v25 :
    regsAfter (flatState 0x00 0x00 0x99 0xFF 0x20 0x0200 [(0x0200, 0x8C), (0x0202, 0x03)]) =
      some [0x00, 0x00, 0x99, 0xFF, 0x20, 0x0203, 4] ∧
    bytesAfter (flatState 0x00 0x00 0x99 0xFF 0x20 0x0200 [(0x0200, 0x8C), (0x0202, 0x03)]) [0x0300] = [some 0x99] := by decide

/-- TAX implied, vector V26. -/
theorem test_tax_v26 :
    regsAfter (flatState 0x00 0x12 0x00 0xFF 0x20 0x0200 [(0x0200, 0xAA)]) =
      some [0x00, 0x00, 0x00, 0xFF, 0x22, 0x0201, 2] := by decide

/-- TAY implied, vector V31. -/
theorem test_tay_v31 :
    regsAfter (flatState 0x90 0x00 0x00 0xFF 0x20 0x0200 [(0x0200, 0xA8)]) =
      some [0x90, 0x00, 0x90, 0xFF, 0xA0, 0x0201, 2] := by decide

/-- TXA implied, vector V27. -/
theorem test_txa_v27 :
    regsAfter (flatState 0x00 0x80 0x00 0xFF 0x20 0x0200 [(0x0200, 0x8A)]) =
      some [0x80, 0x80, 0x00, 0xFF, 0xA0, 0x0201, 2] := by decide

/-- TYA implied, vector V30. -/
theorem test_tya_v30 :
    regsAfter (flatState 0x33 0x00 0x00 0xFF 0x20 0x0200 [(0x0200, 0x98)]) =
      some [0x00, 0x00, 0x00, 0xFF, 0x22, 0x0201, 2] := by decide

/-- TSX implied, vector V28. -/
theorem test_tsx_v28 :
    regsAfter (flatState 0x00 0x00 0x00 0xFF 0x20 0x0200 [(0x0200, 0xBA)]) =
      some [0x00, 0xFF, 0x00, 0xFF, 0xA0, 0x0201, 2] := by decide

/-- TXS implied, vector V29. -/
theorem test_txs_v29 :
    regsAfter (flatState 0x00 0x00 0x00 0xFF 0xA0 0x0200 [(0x0200, 0x9A)]) =
      some [0x00, 0x00, 0x00, 0x00, 0xA0, 0x0201, 2] := by decide

/-- PHA implied, vector V40. -/
theorem test_pha_v40 :
    regsAfter (flatState 0x11 0x00 0x00 0x00 0x20 0x0200 [(0x0200, 0x48)]) =
      some [0x11, 0x00, 0x00, 0xFF, 0x20, 0x0201, 3] ∧
    bytesAfter (flatState 0x11 0x00 0x00 0x00 0x20 0x0200 [(0x0200, 0x48)]) [0x0100] = [some 0x11] := by decide

/-- PHP implied, vector V42. -/
theorem test_php_v42 :
    regsAfter (flatState 0x00 0x00 0x00 0xFF 0xE3 0x0200 [(0x0200, 0x08)]) =
      some [0x00, 0x00, 0x00, 0xFE, 0xE3, 0x0201, 3] ∧
    bytesAfter (flatState 0x00 0x00 0x00 0xFF 0xE3 0x0200 [(0x0200, 0x08)]) [0x01FF] = [some 0xF3] := by decide

/-- PLA implied, vector V41. -/
theorem test_pla_v41 :
    regsAfter (flatState 0x00 0x00 0x00 0xFF 0x20 0x0200 [(0x0200, 0x68)]) =
      some [0x00, 0x00, 0x00, 0x00, 0x22, 0x0201, 4] := by decide

/-- PLP implied, vector V43. -/
theorem test_plp_v43 :
    regsAfter (flatState 0x00 0x00 0x00 0xFE 0x20 0x0200 [(0x01FF, 0xFF), (0x0200, 0x28)]) =
      some [0x00, 0x00, 0x00, 0xFF, 0xEF, 0x0201, 4] := by decide

/-- PLP implied, vector V44. -/
theorem test_plp_v44 :
    regsAfter (flatState 0x00 0x00 0x00 0xFE 0xFF 0x0200 [(0x0200, 0x28)]) =
      some [0x00, 0x00, 0x00, 0xFF, 0x20, 0x0201, 4] := by decide

/-- ADC immediate, vector E7.2. -/
theorem test_adcImm_e7_2 :
    regsAfter (flatState 0x99 0x00 0x00 0xFF 0x28 0x0200 [(0x0200, 0x69), (0x0201, 0x01)]) =
      some [0x00, 0x00, 0x00, 0xFF, 0xA9, 0x0202, 3] := by decide

/-- ADC immediate, vector V55. -/
theorem test_adcImm_v55 :
    regsAfter (flatState 0x0F 0x00 0x00 0xFF 0x28 0x0200 [(0x0200, 0x69), (0x0201, 0x01)]) =
      some [0x16, 0x00, 0x00, 0xFF, 0x28, 0x0202, 3] := by decide

/-- SBC immediate, vector V56. -/
theorem test_sbcImm_v56 :
    regsAfter (flatState 0x00 0x00 0x00 0xFF 0x21 0x0200 [(0x0200, 0xE9), (0x0201, 0x01)]) =
      some [0xFF, 0x00, 0x00, 0xFF, 0xA0, 0x0202, 2] := by decide

/-- SBC immediate, vector V62. -/
theorem test_sbcImm_v62 :
    regsAfter (flatState 0x15 0x00 0x00 0xFF 0x29 0x0200 [(0x0200, 0xE9), (0x0201, 0x20)]) =
      some [0x95, 0x00, 0x00, 0xFF, 0xA8, 0x0202, 3] := by decide

/-- AND immediate, vector V63. -/
theorem test_andImm_v63 :
    regsAfter (flatState 0xF0 0x00 0x00 0xFF 0x20 0x0200 [(0x0200, 0x29), (0x0201, 0x0F)]) =
      some [0x00, 0x00, 0x00, 0xFF, 0x22, 0x0202, 2] := by decide

/-- ORA zero-page, vector V64. -/
theorem test_oraZp_v64 :
    regsAfter (flatState 0x01 0x00 0x00 0xFF 0x20 0x0200 [(0x0010, 0x80), (0x0200, 0x05), (0x0201, 0x10)]) =
      some [0x81, 0x00, 0x00, 0xFF, 0xA0, 0x0202, 3] := by decide

/-- EOR immediate, vector V65. -/
theorem test_eorImm_v65 :
    regsAfter (flatState 0x3C 0x00 0x00 0xFF 0x20 0x0200 [(0x0200, 0x49), (0x0201, 0x3C)]) =
      some [0x00, 0x00, 0x00, 0xFF, 0x22, 0x0202, 2] := by decide

/-- CMP immediate, vector V67. -/
theorem test_cmpImm_v67 :
    regsAfter (flatState 0x42 0x00 0x00 0xFF 0x20 0x0200 [(0x0200, 0xC9), (0x0201, 0x42)]) =
      some [0x42, 0x00, 0x00, 0xFF, 0x23, 0x0202, 2] := by decide

/-- CMP immediate, vector V79. -/
theorem test_cmpImm_v79 :
    regsAfter (flatState 0x09 0x00 0x00 0xFF 0x28 0x0200 [(0x0200, 0xC9), (0x0201, 0x10)]) =
      some [0x09, 0x00, 0x00, 0xFF, 0xA8, 0x0202, 2] := by decide

/-- CPX immediate, vector V69. -/
theorem test_cpxImm_v69 :
    regsAfter (flatState 0x00 0x05 0x00 0xFF 0x20 0x0200 [(0x0200, 0xE0), (0x0201, 0x05)]) =
      some [0x00, 0x05, 0x00, 0xFF, 0x23, 0x0202, 2] := by decide

/-- CPY immediate, vector V70. -/
theorem test_cpyImm_v70 :
    regsAfter (flatState 0x00 0x00 0x05 0xFF 0x20 0x0200 [(0x0200, 0xC0), (0x0201, 0x06)]) =
      some [0x00, 0x00, 0x05, 0xFF, 0xA0, 0x0202, 2] := by decide

/-- BIT zero-page, vector V71. -/
theorem test_bitZp_v71 :
    regsAfter (flatState 0x01 0x00 0x00 0xFF 0x20 0x0200 [(0x0080, 0xC0), (0x0200, 0x24), (0x0201, 0x80)]) =
      some [0x01, 0x00, 0x00, 0xFF, 0xE2, 0x0202, 3] := by decide

/-- BIT absolute, vector V72. -/
theorem test_bitAbs_v72 :
    regsAfter (flatState 0xFF 0x00 0x00 0xFF 0xE2 0x0200 [(0x0200, 0x2C), (0x0202, 0x30), (0x3000, 0x01)]) =
      some [0xFF, 0x00, 0x00, 0xFF, 0x20, 0x0203, 4] := by decide

/-- INC absolute,X, vector V15. -/
theorem test_incAbsX_v15 :
    regsAfter (flatState 0x00 0x10 0x00 0xFF 0x20 0x0200 [(0x0200, 0xFE), (0x0201, 0xF0), (0x0202, 0x12), (0x1300, 0x7F)]) =
      some [0x00, 0x10, 0x00, 0xFF, 0xA0, 0x0203, 7] ∧
    bytesAfter (flatState 0x00 0x10 0x00 0xFF 0x20 0x0200 [(0x0200, 0xFE), (0x0201, 0xF0), (0x0202, 0x12), (0x1300, 0x7F)]) [0x1300] = [some 0x80] := by decide

/-- INC zero-page, vector V73. -/
theorem test_incZp_v73 :
    regsAfter (flatState 0x00 0x00 0x00 0xFF 0x21 0x0200 [(0x0010, 0xFF), (0x0200, 0xE6), (0x0201, 0x10)]) =
      some [0x00, 0x00, 0x00, 0xFF, 0x23, 0x0202, 5] ∧
    bytesAfter (flatState 0x00 0x00 0x00 0xFF 0x21 0x0200 [(0x0010, 0xFF), (0x0200, 0xE6), (0x0201, 0x10)]) [0x0010] = [some 0x00] := by decide

/-- DEC zero-page, vector V74. -/
theorem test_decZp_v74 :
    regsAfter (flatState 0x00 0x00 0x00 0xFF 0x20 0x0200 [(0x0200, 0xC6), (0x0201, 0x10)]) =
      some [0x00, 0x00, 0x00, 0xFF, 0xA0, 0x0202, 5] ∧
    bytesAfter (flatState 0x00 0x00 0x00 0xFF 0x20 0x0200 [(0x0200, 0xC6), (0x0201, 0x10)]) [0x0010] = [some 0xFF] := by decide

/-- INX implied, vector V75. -/
theorem test_inx_v75 :
    regsAfter (flatState 0x00 0xFF 0x00 0xFF 0x20 0x0200 [(0x0200, 0xE8)]) =
      some [0x00, 0x00, 0x00, 0xFF, 0x22, 0x0201, 2] := by decide

/-- INY implied, vector V77. -/
theorem test_iny_v77 :
    regsAfter (flatState 0x00 0x00 0x7F 0xFF 0x20 0x0200 [(0x0200, 0xC8)]) =
      some [0x00, 0x00, 0x80, 0xFF, 0xA0, 0x0201, 2] := by decide

/-- DEX implied, vector V78. -/
theorem test_dex_v78 :
    regsAfter (flatState 0x00 0x01 0x00 0xFF 0x20 0x0200 [(0x0200, 0xCA)]) =
      some [0x00, 0x00, 0x00, 0xFF, 0x22, 0x0201, 2] := by decide

/-- DEY implied, vector V76. -/
theorem test_dey_v76 :
    regsAfter (flatState 0x00 0x00 0x00 0xFF 0x20 0x0200 [(0x0200, 0x88)]) =
      some [0x00, 0x00, 0xFF, 0xFF, 0xA0, 0x0201, 2] := by decide

/-- ASL accumulator, vector V19. -/
theorem test_aslAcc_v19 :
    regsAfter (flatState 0x01 0x00 0x00 0xFF 0x20 0x0200 [(0x0200, 0x0A)]) =
      some [0x02, 0x00, 0x00, 0xFF, 0x20, 0x0201, 2] := by decide

/-- ASL zero-page, vector V81. -/
theorem test_aslZp_v81 :
    regsAfter (flatState 0x00 0x00 0x00 0xFF 0x20 0x0200 [(0x0010, 0x41), (0x0200, 0x06), (0x0201, 0x10)]) =
      some [0x00, 0x00, 0x00, 0xFF, 0xA0, 0x0202, 5] ∧
    bytesAfter (flatState 0x00 0x00 0x00 0xFF 0x20 0x0200 [(0x0010, 0x41), (0x0200, 0x06), (0x0201, 0x10)]) [0x0010] = [some 0x82] := by decide

/-- LSR accumulator, vector V82. -/
theorem test_lsrAcc_v82 :
    regsAfter (flatState 0x01 0x00 0x00 0xFF 0x20 0x0200 [(0x0200, 0x4A)]) =
      some [0x00, 0x00, 0x00, 0xFF, 0x23, 0x0201, 2] := by decide

/-- LSR accumulator, vector V87. -/
theorem test_lsrAcc_v87 :
    regsAfter (flatState 0xFE 0x00 0x00 0xFF 0xA0 0x0200 [(0x0200, 0x4A)]) =
      some [0x7F, 0x00, 0x00, 0xFF, 0x20, 0x0201, 2] := by decide

/-- ROL accumulator, vector V83. -/
theorem test_rolAcc_v83 :
    regsAfter (flatState 0x40 0x00 0x00 0xFF 0x21 0x0200 [(0x0200, 0x2A)]) =
      some [0x81, 0x00, 0x00, 0xFF, 0xA0, 0x0201, 2] := by decide

/-- ROL accumulator, vector V84. -/
theorem test_rolAcc_v84 :
    regsAfter (flatState 0x80 0x00 0x00 0xFF 0x20 0x0200 [(0x0200, 0x2A)]) =
      some [0x00, 0x00, 0x00, 0xFF, 0x23, 0x0201, 2] := by decide

/-- ROR accumulator, vector V85. -/
theorem test_rorAcc_v85 :
    regsAfter (flatState 0x00 0x00 0x00 0xFF 0x21 0x0200 [(0x0200, 0x6A)]) =
      some [0x80, 0x00, 0x00, 0xFF, 0xA0, 0x0201, 2] := by decide

/-- ROR absolute,X, vector V86. -/
theorem test_rorAbsX_v86 :
    regsAfter (flatState 0x00 0x01 0x00 0xFF 0x21 0x0200 [(0x0200, 0x7E), (0x0202, 0x30), (0x3001, 0x02)]) =
      some [0x00, 0x01, 0x00, 0xFF, 0xA0, 0x0203, 7] ∧
    bytesAfter (flatState 0x00 0x01 0x00 0xFF 0x21 0x0200 [(0x0200, 0x7E), (0x0202, 0x30), (0x3001, 0x02)]) [0x3001] = [some 0x81] := by decide

/-- JMP absolute, vector V90. -/
theorem test_jmpAbs_v90 :
    regsAfter (flatState 0x00 0x00 0x00 0xFF 0x20 0x1234 [(0x1234, 0x4C), (0x1236, 0xF0)]) =
      some [0x00, 0x00, 0x00, 0xFF, 0x20, 0xF000, 3] := by decide

/-- JMP (absolute) indirect, vector E8.1. -/
theorem test_jmpInd_e8_1 :
    regsAfter (flatState 0x00 0x00 0x00 0xFF 0x20 0x0200 [(0x0200, 0x6C), (0x0201, 0xFF), (0x0202, 0x30), (0x3000, 0x40), (0x3100, 0x50)]) =
      some [0x00, 0x00, 0x00, 0xFF, 0x20, 0x4000, 5] := by decide

/-- JSR absolute, vector V93. -/
theorem test_jsr_v93 :
    regsAfter (flatState 0x00 0x00 0x00 0xFF 0x20 0x0600 [(0x0600, 0x20), (0x0602, 0x07)]) =
      some [0x00, 0x00, 0x00, 0xFD, 0x20, 0x0700, 6] ∧
    bytesAfter (flatState 0x00 0x00 0x00 0xFF 0x20 0x0600 [(0x0600, 0x20), (0x0602, 0x07)]) [0x01FE, 0x01FF] = [some 0x02, some 0x06] := by decide

/-- RTS implied, vector V94. -/
theorem test_rts_v94 :
    regsAfter (flatState 0x00 0x00 0x00 0xFD 0x20 0x0200 [(0x01FE, 0x02), (0x01FF, 0x06), (0x0200, 0x60)]) =
      some [0x00, 0x00, 0x00, 0xFF, 0x20, 0x0603, 6] := by decide

/-- RTS implied, vector V95. -/
theorem test_rts_v95 :
    regsAfter (flatState 0x00 0x00 0x00 0xFD 0x20 0x0200 [(0x01FE, 0xFF), (0x01FF, 0xFF), (0x0200, 0x60)]) =
      some [0x00, 0x00, 0x00, 0xFF, 0x20, 0x0000, 6] := by decide

/-- BPL relative, vector V102. -/
theorem test_bpl_v102 :
    regsAfter (flatState 0x00 0x00 0x00 0xFF 0x20 0x0600 [(0x0600, 0x10), (0x0601, 0x02)]) =
      some [0x00, 0x00, 0x00, 0xFF, 0x20, 0x0604, 3] := by decide

/-- BMI relative, vector V103. -/
theorem test_bmi_v103 :
    regsAfter (flatState 0x00 0x00 0x00 0xFF 0x20 0x0600 [(0x0600, 0x30), (0x0601, 0x02)]) =
      some [0x00, 0x00, 0x00, 0xFF, 0x20, 0x0602, 2] := by decide

/-- BVC relative, vector V98. -/
theorem test_bvc_v98 :
    regsAfter (flatState 0x00 0x00 0x00 0xFF 0x20 0x06F0 [(0x06F0, 0x50), (0x06F1, 0x20)]) =
      some [0x00, 0x00, 0x00, 0xFF, 0x20, 0x0712, 4] := by decide

/-- BVS relative, vector V100. -/
theorem test_bvs_v100 :
    regsAfter (flatState 0x00 0x00 0x00 0xFF 0x60 0x0600 [(0x0600, 0x70), (0x0601, 0xFE)]) =
      some [0x00, 0x00, 0x00, 0xFF, 0x60, 0x0600, 3] := by decide

/-- BCC relative, vector V99. -/
theorem test_bcc_v99 :
    regsAfter (flatState 0x00 0x00 0x00 0xFF 0x20 0x0600 [(0x0600, 0x90), (0x0601, 0x80)]) =
      some [0x00, 0x00, 0x00, 0xFF, 0x20, 0x0582, 4] := by decide

/-- BCS relative, vector V104. -/
theorem test_bcs_v104 :
    regsAfter (flatState 0x00 0x00 0x00 0xFF 0x21 0x0600 [(0x0600, 0xB0), (0x0601, 0x7F)]) =
      some [0x00, 0x00, 0x00, 0xFF, 0x21, 0x0681, 3] := by decide

/-- BCS relative, vector V110. -/
theorem test_bcs_v110 :
    regsAfter (flatState 0x00 0x00 0x00 0xFF 0x20 0x06FE [(0x06FE, 0xB0), (0x06FF, 0x10)]) =
      some [0x00, 0x00, 0x00, 0xFF, 0x20, 0x0700, 2] := by decide

/-- BNE relative, vector V96. -/
theorem test_bne_v96 :
    regsAfter (flatState 0x00 0x00 0x00 0xFF 0x22 0x0600 [(0x0600, 0xD0), (0x0601, 0x10)]) =
      some [0x00, 0x00, 0x00, 0xFF, 0x22, 0x0602, 2] := by decide

/-- BNE relative, vector V101. -/
theorem test_bne_v101 :
    regsAfter (flatState 0x00 0x00 0x00 0xFF 0x20 0xFFF0 [(0xFFF0, 0xD0), (0xFFF1, 0x20)]) =
      some [0x00, 0x00, 0x00, 0xFF, 0x20, 0x0012, 4] := by decide

/-- BEQ relative, vector V105. -/
theorem test_beq_v105 :
    regsAfter (flatState 0x00 0x00 0x00 0xFF 0x22 0x0600 [(0x0600, 0xF0), (0x0601, 0x10)]) =
      some [0x00, 0x00, 0x00, 0xFF, 0x22, 0x0612, 3] := by decide

/-- BRK implied, vector V106. -/
theorem test_brk_v106 :
    regsAfter (flatState 0x00 0x00 0x00 0xFF 0x20 0x0600 [(0x0601, 0xEA), (0xFFFF, 0x80)]) =
      some [0x00, 0x00, 0x00, 0xFC, 0x24, 0x8000, 7] ∧
    bytesAfter (flatState 0x00 0x00 0x00 0xFF 0x20 0x0600 [(0x0601, 0xEA), (0xFFFF, 0x80)]) [0x01FD, 0x01FE, 0x01FF] = [some 0x30, some 0x02, some 0x06] := by decide

/-- BRK implied, vector V107. -/
theorem test_brk_v107 :
    regsAfter (flatState 0x00 0x00 0x00 0x02 0x28 0x0600 [(0xFFFE, 0x34), (0xFFFF, 0x12)]) =
      some [0x00, 0x00, 0x00, 0xFF, 0x2C, 0x1234, 7] ∧
    bytesAfter (flatState 0x00 0x00 0x00 0x02 0x28 0x0600 [(0xFFFE, 0x34), (0xFFFF, 0x12)]) [0x0100, 0x0101, 0x0102] = [some 0x38, some 0x02, some 0x06] := by decide

/-- RTI implied, vector V108. -/
theorem test_rti_v108 :
    regsAfter (flatState 0x00 0x00 0x00 0xFC 0x20 0x0200 [(0x01FD, 0x30), (0x01FE, 0x02), (0x01FF, 0x06), (0x0200, 0x40)]) =
      some [0x00, 0x00, 0x00, 0xFF, 0x20, 0x0602, 6] := by decide

/-- RTI implied, vector V109. -/
theorem test_rti_v109 :
    regsAfter (flatState 0x00 0x00 0x00 0xFC 0x20 0x0200 [(0x01FD, 0xDB), (0x01FF, 0x90), (0x0200, 0x40)]) =
      some [0x00, 0x00, 0x00, 0xFF, 0xEB, 0x9000, 6] := by decide

/-- CLC implied, vector V120. -/
theorem test_clc_v120 :
    regsAfter (flatState 0x00 0x00 0x00 0xFF 0x21 0x0200 [(0x0200, 0x18)]) =
      some [0x00, 0x00, 0x00, 0xFF, 0x20, 0x0201, 2] := by decide

/-- SEC implied, vector V121. -/
theorem test_sec_v121 :
    regsAfter (flatState 0x00 0x00 0x00 0xFF 0x20 0x0200 [(0x0200, 0x38)]) =
      some [0x00, 0x00, 0x00, 0xFF, 0x21, 0x0201, 2] := by decide

/-- CLI implied, vector V122. -/
theorem test_cli_v122 :
    regsAfter (flatState 0x00 0x00 0x00 0xFF 0x24 0x0200 [(0x0200, 0x58)]) =
      some [0x00, 0x00, 0x00, 0xFF, 0x20, 0x0201, 2] := by decide

/-- SEI implied, vector V123. -/
theorem test_sei_v123 :
    regsAfter (flatState 0x00 0x00 0x00 0xFF 0x20 0x0200 [(0x0200, 0x78)]) =
      some [0x00, 0x00, 0x00, 0xFF, 0x24, 0x0201, 2] := by decide

/-- CLD implied, vector V124. -/
theorem test_cld_v124 :
    regsAfter (flatState 0x00 0x00 0x00 0xFF 0x28 0x0200 [(0x0200, 0xD8)]) =
      some [0x00, 0x00, 0x00, 0xFF, 0x20, 0x0201, 2] := by decide

/-- SED implied, vector V125. -/
theorem test_sed_v125 :
    regsAfter (flatState 0x00 0x00 0x00 0xFF 0x20 0x0200 [(0x0200, 0xF8)]) =
      some [0x00, 0x00, 0x00, 0xFF, 0x28, 0x0201, 2] := by decide

/-- CLV implied, vector V126. -/
theorem test_clv_v126 :
    regsAfter (flatState 0x00 0x00 0x00 0xFF 0x60 0x0200 [(0x0200, 0xB8)]) =
      some [0x00, 0x00, 0x00, 0xFF, 0x20, 0x0201, 2] := by decide

/-- NOP absolute,X, vector V16. -/
theorem test_nop1C_v16 :
    regsAfter (flatState 0x00 0x10 0x00 0xFF 0x20 0x0200 [(0x0200, 0x1C), (0x0201, 0xF0), (0x0202, 0x12)]) =
      some [0x00, 0x10, 0x00, 0xFF, 0x20, 0x0203, 5] := by decide

/-- SLO zero-page, vector V130. -/
theorem test_sloZp_v130 :
    regsAfter (flatState 0x00 0x00 0x00 0xFF 0x20 0x0200 [(0x0010, 0x81), (0x0200, 0x07), (0x0201, 0x10)]) =
      some [0x02, 0x00, 0x00, 0xFF, 0x21, 0x0202, 5] ∧
    bytesAfter (flatState 0x00 0x00 0x00 0xFF 0x20 0x0200 [(0x0010, 0x81), (0x0200, 0x07), (0x0201, 0x10)]) [0x0010] = [some 0x02] := by decide

/-- SLO absolute,X, vector V155. -/
theorem test_sloAbsX_v155 :
    regsAfter (flatState 0x00 0x10 0x00 0xFF 0x20 0x0200 [(0x0200, 0x1F), (0x0201, 0xF0), (0x0202, 0x12), (0x1300, 0x40)]) =
      some [0x80, 0x10, 0x00, 0xFF, 0xA0, 0x0203, 7] ∧
    bytesAfter (flatState 0x00 0x10 0x00 0xFF 0x20 0x0200 [(0x0200, 0x1F), (0x0201, 0xF0), (0x0202, 0x12), (0x1300, 0x40)]) [0x1300] = [some 0x80] := by decide

/-- RLA zero-page, vector V131. -/
theorem test_rlaZp_v131 :
    regsAfter (flatState 0xFF 0x00 0x00 0xFF 0x21 0x0200 [(0x0010, 0x80), (0x0200, 0x27), (0x0201, 0x10)]) =
      some [0x01, 0x00, 0x00, 0xFF, 0x21, 0x0202, 5] ∧
    bytesAfter (flatState 0xFF 0x00 0x00 0xFF 0x21 0x0200 [(0x0010, 0x80), (0x0200, 0x27), (0x0201, 0x10)]) [0x0010] = [some 0x01] := by decide

/-- SRE zero-page, vector V132. -/
theorem test_sreZp_v132 :
    regsAfter (flatState 0x01 0x00 0x00 0xFF 0x20 0x0200 [(0x0010, 0x03), (0x0200, 0x47), (0x0201, 0x10)]) =
      some [0x00, 0x00, 0x00, 0xFF, 0x23, 0x0202, 5] ∧
    bytesAfter (flatState 0x01 0x00 0x00 0xFF 0x20 0x0200 [(0x0010, 0x03), (0x0200, 0x47), (0x0201, 0x10)]) [0x0010] = [some 0x01] := by decide

/-- RRA zero-page, vector V133. -/
theorem test_rraZp_v133 :
    regsAfter (flatState 0x10 0x00 0x00 0xFF 0x20 0x0200 [(0x0010, 0x03), (0x0200, 0x67), (0x0201, 0x10)]) =
      some [0x12, 0x00, 0x00, 0xFF, 0x20, 0x0202, 5] ∧
    bytesAfter (flatState 0x10 0x00 0x00 0xFF 0x20 0x0200 [(0x0010, 0x03), (0x0200, 0x67), (0x0201, 0x10)]) [0x0010] = [some 0x01] := by decide

/-- RRA zero-page, vector V134. -/
theorem test_rraZp_v134 :
    regsAfter (flatState 0x19 0x00 0x00 0xFF 0x28 0x0200 [(0x0010, 0x03), (0x0200, 0x67), (0x0201, 0x10)]) =
      some [0x21, 0x00, 0x00, 0xFF, 0x28, 0x0202, 6] ∧
    bytesAfter (flatState 0x19 0x00 0x00 0xFF 0x28 0x0200 [(0x0010, 0x03), (0x0200, 0x67), (0x0201, 0x10)]) [0x0010] = [some 0x01] := by decide

/-- DCP zero-page, vector V135. -/
theorem test_dcpZp_v135 :
    regsAfter (flatState 0x05 0x00 0x00 0xFF 0x20 0x0200 [(0x0010, 0x06), (0x0200, 0xC7), (0x0201, 0x10)]) =
      some [0x05, 0x00, 0x00, 0xFF, 0x23, 0x0202, 5] ∧
    bytesAfter (flatState 0x05 0x00 0x00 0xFF 0x20 0x0200 [(0x0010, 0x06), (0x0200, 0xC7), (0x0201, 0x10)]) [0x0010] = [some 0x05] := by decide

/-- DCP zero-page, vector V136. -/
theorem test_dcpZp_v136 :
    regsAfter (flatState 0xFF 0x00 0x00 0xFF 0x20 0x0200 [(0x0200, 0xC7), (0x0201, 0x10)]) =
      some [0xFF, 0x00, 0x00, 0xFF, 0x23, 0x0202, 5] ∧
    bytesAfter (flatState 0xFF 0x00 0x00 0xFF 0x20 0x0200 [(0x0200, 0xC7), (0x0201, 0x10)]) [0x0010] = [some 0xFF] := by decide

/-- ISC zero-page, vector V137. -/
theorem test_iscZp_v137 :
    regsAfter (flatState 0x05 0x00 0x00 0xFF 0x21 0x0200 [(0x0200, 0xE7), (0x0201, 0x10)]) =
      some [0x04, 0x00, 0x00, 0xFF, 0x21, 0x0202, 5] ∧
    bytesAfter (flatState 0x05 0x00 0x00 0xFF 0x21 0x0200 [(0x0200, 0xE7), (0x0201, 0x10)]) [0x0010] = [some 0x01] := by decide

/-- ISC zero-page, vector V154. -/
theorem test_iscZp_v154 :
    regsAfter (flatState 0x10 0x00 0x00 0xFF 0x29 0x0200 [(0x0200, 0xE7), (0x0201, 0x10)]) =
      some [0x09, 0x00, 0x00, 0xFF, 0x29, 0x0202, 6] ∧
    bytesAfter (flatState 0x10 0x00 0x00 0xFF 0x29 0x0200 [(0x0200, 0xE7), (0x0201, 0x10)]) [0x0010] = [some 0x01] := by decide

/-- SAX zero-page, vector V138. -/
theorem test_saxZp_v138 :
    regsAfter (flatState 0xF0 0x3C 0x00 0xFF 0x20 0x0200 [(0x0200, 0x87), (0x0201, 0x10)]) =
      some [0xF0, 0x3C, 0x00, 0xFF, 0x20, 0x0202, 3] ∧
    bytesAfter (flatState 0xF0 0x3C 0x00 0xFF 0x20 0x0200 [(0x0200, 0x87), (0x0201, 0x10)]) [0x0010] = [some 0x30] := by decide

/-- LAX zero-page, vector V139. -/
theorem test_laxZp_v139 :
    regsAfter (flatState 0x00 0x00 0x00 0xFF 0x20 0x0200 [(0x0010, 0x80), (0x0200, 0xA7), (0x0201, 0x10)]) =
      some [0x80, 0x80, 0x00, 0xFF, 0xA0, 0x0202, 3] := by decide

/-- LAX absolute,Y, vector V140. -/
theorem test_laxAbsY_v140 :
    regsAfter (flatState 0x00 0x00 0x10 0xFF 0x20 0x0200 [(0x0200, 0xBF), (0x0201, 0xF0), (0x0202, 0x12)]) =
      some [0x00, 0x00, 0x10, 0xFF, 0x22, 0x0203, 5] := by decide

/-- ANC immediate, vector V141. -/
theorem test_anc0B_v141 :
    regsAfter (flatState 0xFF 0x00 0x00 0xFF 0x20 0x0200 [(0x0200, 0x0B), (0x0201, 0x80)]) =
      some [0x80, 0x00, 0x00, 0xFF, 0xA1, 0x0202, 2] := by decide

/-- ALR immediate, vector V142. -/
theorem test_alr_v142 :
    regsAfter (flatState 0xFF 0x00 0x00 0xFF 0x20 0x0200 [(0x0200, 0x4B), (0x0201, 0x03)]) =
      some [0x01, 0x00, 0x00, 0xFF, 0x21, 0x0202, 2] := by decide

/-- ARR immediate, vector V143. -/
theorem test_arr_v143 :
    regsAfter (flatState 0xC0 0x00 0x00 0xFF 0x20 0x0200 [(0x0200, 0x6B), (0x0201, 0xFF)]) =
      some [0x60, 0x00, 0x00, 0xFF, 0x21, 0x0202, 2] := by decide

/-- ARR immediate, vector V144. -/
theorem test_arr_v144 :
    regsAfter (flatState 0xFF 0x00 0x00 0xFF 0x29 0x0200 [(0x0200, 0x6B), (0x0201, 0x0F)]) =
      some [0x87, 0x00, 0x00, 0xFF, 0xA8, 0x0202, 2] := by decide

/-- SBX immediate, vector V145. -/
theorem test_sbx_v145 :
    regsAfter (flatState 0xFF 0x10 0x00 0xFF 0x20 0x0200 [(0x0200, 0xCB), (0x0201, 0x01)]) =
      some [0xFF, 0x0F, 0x00, 0xFF, 0x21, 0x0202, 2] := by decide

/-- SBX immediate, vector V146. -/
theorem test_sbx_v146 :
    regsAfter (flatState 0x0F 0xFF 0x00 0xFF 0x20 0x0200 [(0x0200, 0xCB), (0x0201, 0x20)]) =
      some [0x0F, 0xEF, 0x00, 0xFF, 0xA0, 0x0202, 2] := by decide

/-- USBC immediate, vector V147. -/
theorem test_usbc_v147 :
    regsAfter (flatState 0x05 0x00 0x00 0xFF 0x21 0x0200 [(0x0200, 0xEB), (0x0201, 0x01)]) =
      some [0x04, 0x00, 0x00, 0xFF, 0x21, 0x0202, 2] := by decide

/-- NOP immediate, vector V148. -/
theorem test_nop80_v148 :
    regsAfter (flatState 0x00 0x00 0x00 0xFF 0xFF 0x0200 [(0x0200, 0x80), (0x0201, 0xFF)]) =
      some [0x00, 0x00, 0x00, 0xFF, 0xFF, 0x0202, 2] := by decide

/-- JAM implied, vector V151. -/
theorem test_jamF2_v151 :
    regsAfter (flatState 0x00 0x00 0x00 0xFF 0x20 0x0200 [(0x0200, 0xF2)]) =
      some [0x00, 0x00, 0x00, 0xFF, 0x20, 0x0201, 2] := by decide

/-- ANE immediate, vector V152. -/
theorem test_ane_v152 :
    regsAfter (flatState 0x12 0x34 0x00 0xFF 0x20 0x0200 [(0x0200, 0x8B), (0x0201, 0x55)]) =
      some [0x12, 0x34, 0x00, 0xFF, 0x20, 0x0202, 2] := by decide

/-- SHY absolute,X, vector V153. -/
theorem test_shy_v153 :
    regsAfter (flatState 0x00 0x34 0x12 0xFF 0x20 0x0200 [(0x0200, 0x9C), (0x0202, 0x30)]) =
      some [0x00, 0x34, 0x12, 0xFF, 0x20, 0x0203, 5] := by decide

/-! ### The unstable slots without a vector: PC, the cycles, and nothing else (spec 47_illegal R255) -/

theorem test_lxa_unstable :
    regsAfter (flatState 0x11 0x22 0x33 0x44 0x20 0x0200 [(0x0200, 0xAB), (0x0201, 0xFF)]) =
      some [0x11, 0x22, 0x33, 0x44, 0x20, 0x0202, 2] := by decide

theorem test_shaIndY_unstable :
    regsAfter (flatState 0x11 0x22 0x33 0x44 0x20 0x0200 [(0x0021, 0x40), (0x0200, 0x93), (0x0201, 0x20)]) =
      some [0x11, 0x22, 0x33, 0x44, 0x20, 0x0202, 6] := by decide

theorem test_shaAbsY_unstable :
    regsAfter (flatState 0x11 0x22 0x33 0x44 0x20 0x0200 [(0x0200, 0x9F), (0x0201, 0xFF), (0x0202, 0x40)]) =
      some [0x11, 0x22, 0x33, 0x44, 0x20, 0x0203, 5] := by decide

theorem test_shx_unstable :
    regsAfter (flatState 0x11 0x22 0x33 0x44 0x20 0x0200 [(0x0200, 0x9E), (0x0201, 0xFF), (0x0202, 0x40)]) =
      some [0x11, 0x22, 0x33, 0x44, 0x20, 0x0203, 5] := by decide

theorem test_tas_unstable :
    regsAfter (flatState 0x11 0x22 0x33 0x44 0x20 0x0200 [(0x0200, 0x9B), (0x0201, 0xFF), (0x0202, 0x40)]) =
      some [0x11, 0x22, 0x33, 0x44, 0x20, 0x0203, 5] := by decide

theorem test_las_unstable :
    regsAfter (flatState 0x11 0x22 0x33 0x44 0x20 0x0200 [(0x0200, 0xBB), (0x0201, 0xFF), (0x0202, 0x40)]) =
      some [0x11, 0x22, 0x33, 0x44, 0x20, 0x0203, 4] := by decide

/-- With UNSTABLE_POLICY `refuse` an unstable slot has no meaning. -/
theorem test_unstable_refused :
    refusalOf { flatState 0 0 0 0 0 0x0200 [(0x0200, 0x9E)] with cfg := { Config.flat with unstablePolicy := .refuse } } =
      some .unstableSlot := by decide

/-! ### IRQ entry, vectors V160 to V162 (spec 60_exceptions R271, R272, R274), with HAS_IRQ and the request level high -/

theorem test_irq_v160 : regsAfter { flatState 0x00 0x00 0x00 0xFF 0x21 0x0600 [(0x0600, 0xEA), (0xFFFF, 0x90)] with
      cfg := { Config.flat with hasIrq := true }, irq := true } =
      some [0x00, 0x00, 0x00, 0xFC, 0x25, 0x9000, 7] := by decide

theorem test_irq_v160_pushes : bytesAfter { flatState 0x00 0x00 0x00 0xFF 0x21 0x0600 [(0x0600, 0xEA), (0xFFFF, 0x90)] with
      cfg := { Config.flat with hasIrq := true }, irq := true } [0x01FD, 0x01FF] =
      [some 0x21, some 0x06] := by decide

theorem test_irq_v161 : regsAfter { flatState 0x00 0x00 0x00 0xFF 0x24 0x0600 [(0x0600, 0xEA), (0xFFFF, 0x90)] with
      cfg := { Config.flat with hasIrq := true }, irq := true } =
      some [0x00, 0x00, 0x00, 0xFF, 0x24, 0x0601, 2] := by decide

theorem test_irq_v162 : regsAfter { flatState 0x00 0x00 0x00 0xFF 0x20 0x0600 [(0x0600, 0xEA)] with
      cfg := { Config.flat with hasIrq := true }, irq := true, jammed := true } =
      some [0x00, 0x00, 0x00, 0xFF, 0x20, 0x0600, 0] := by decide

/-! ### The console (spec 20_memory R57, R58, R60) -/

/-- The console with these bytes at the start of the cartridge ROM, which is where PC is. -/
def consoleState (a sp : Byte) (rom : List Host.Cell) : State :=
  { State.reset with a := a, sp := sp, pc := 0xF000, memories := [{ blankRom with cells := rom }, blankRam] }

/-- STA to the cartridge ROM is discarded. -/
theorem test_console_rom_write_discarded :
    bytesAfter (consoleState 0x5A 0xFF [(0, 0x8D), (2, 0xF0)]) [0xF000, 0xF002] = [some 0x8D, some 0xF0] := by decide

/-- PHA at S = 0xFF writes the RAM cell that zero-page address 0xFF names too, and the ticks are 9 and 3. -/
theorem test_console_push_is_zero_page :
    bytesAfter (consoleState 0x5A 0xFF [(0, 0x48)]) [0x01FF, 0x00FF, 0xE0FF, 0x00FE] =
      [some 0x5A, some 0x5A, some 0x5A, some 0x00] ∧
    ∃ t, step (consoleState 0x5A 0xFF [(0, 0x48)]) = .next t ∧ t.peripherals.map (·.ticks) = [9, 3] :=
  ⟨by decide, _, rfl, rfl⟩

/-- A range may subtract a base before its mask, for a peripheral as for a Memory (spec 20_memory R53). -/
theorem test_route_subtracts_base :
    let s : State := { State.reset with cfg := { Config.flat with
      busMap := [⟨0xFF00, 0xD300, .peripheral 1 0xD308 0x000F 0x0007⟩, ⟨0xF000, 0x8000, .memory 0 0x8000 0x0FFF⟩] } }
    route s 0xD318 = .device 1 0 0 ∧ route s 0xD317 = .device 1 15 7 ∧ route s 0x8123 = .cell 0 blankRom 0x123 :=
  ⟨rfl, rfl, rfl⟩

/-- STA to a video register is delivered with the low six lines of its address. -/
theorem test_console_peripheral_write :
    ∃ t, step (consoleState 0x5A 0xFF [(0, 0x85), (1, 0x42)]) = .next t ∧
      t.peripherals.map (·.accesses) = [[.write 0x02 0x5A], []] := ⟨_, rfl, rfl⟩

/-! ### A program placed after reset -/

/-- The opcode and the cycles of the step that runs a placed instruction from the state after reset. -/
def placedStep (nbits w : Nat) : Option (Nat × Nat) :=
  match step (State.reset.withFetchWord nbits w) with
  | .next t => some (t.currentOpcode.toNat, t.total)
  | .fault _ => none
  | .refused _ => none

theorem test_placed_instructions_run :
    placedStep 16 0x00 = some (0x00, 7) ∧ placedStep 8 0x02 = some (0x02, 2) ∧ placedStep 16 0xFFA9 = some (0xA9, 2) ∧
    placedStep 24 0x00808D = some (0x8D, 4) ∧ placedStep 8 0x6C = some (0x6C, 5) ∧ placedStep 16 0x7FD0 = some (0xD0, 3) := by
  decide

theorem test_table_words_decode :
    decodeTableWord 8 0xA9 = some (.ldaImm 0x00) ∧ decodeTableWord 24 0x12348D = some (.staAbs 0x1234) ∧
    decodeTableWord 8 0x6C = some (.jmpInd 0x0000) ∧ decodeTableWord 16 0xFBD0 = some (.bne 0xFB) := ⟨rfl, rfl, rfl, rfl⟩

/-- The two canonical forms of a write: one that lists a cell, and one that removes it. -/
theorem test_put_keeps_canonical_form :
    (blankRam.put 5 7).cells = [(5, 7)] ∧ ((blankRam.put 5 7).put 133 0).cells = [] ∧
    (((blankRam.put 5 7).put 3 1).put 9 2).cells = [(3, 1), (5, 7), (9, 2)] := by decide

/-! ### Witnesses: a state and operands that meet the hypotheses of each statement that has some -/

/-- NOP stands at PC in the cartridge ROM of the console. -/
def nopState : State := consoleState 0x00 0xFF [(0, 0xEA)]

/-- LDA absolute lies across the top of the address space, where PC wraps. -/
def wrapState : State := flatState 0 0 0 0xFF 0x20 0xFFFF [(0x0000, 0x34), (0x0001, 0x12), (0xFFFF, 0xAD)]

/-- ANE stands at PC and the policy refuses it. -/
def refuseState : State :=
  { flatState 0 0 0 0xFF 0x20 0x0200 [(0x0200, 0x8B)] with cfg := { Config.flat with unstablePolicy := .refuse } }

/-- An IRQ is requested and enabled. -/
def irqState : State := { flatState 0 0 0 0xFF 0x20 0x0200 [] with cfg := { Config.flat with hasIrq := true }, irq := true }

/-- The whole address space is the fallback range. -/
def fallbackState : State :=
  { flatState 0 0 0 0xFF 0x20 0x0200 [] with cfg := { Config.flat with busMap := [⟨0, 0, .fallback⟩] } }

theorem witness_DecodeOfEncode : (Instr.staAbsX 0xFFFF).wf = true ∧ Instr.brk.wf = true ∧ (Instr.bne 0x80).wf = true := by
  decide

theorem witness_DecoderIsTotal_encode : (slotOf 0xA9).fetched = (slotOf 0xA9).length ∧
    (slotOf 0x4C).fetched = (slotOf 0x4C).length ∧ (slotOf 0xEA).fetched = (slotOf 0xEA).length := by decide

theorem witness_StepRunsTheDecodedInstruction :
    (Instr.ldaAbs 0x1234).wf = true ∧ decode [0xAD, 0x34, 0x12] = .ok (.ldaAbs 0x1234, []) ∧
    (∀ k, k < (slotOf 0xAD).fetched → peek wrapState (wrapState.pc + BitVec.ofNat 16 k) = [0xAD, 0x34, 0x12][k]?) ∧
    wrapState.jammed = false ∧ irqTaken wrapState = false ∧ ∃ t, exec (.ldaAbs 0x1234) wrapState = .next t :=
  ⟨rfl, rfl, by decide, rfl, rfl, _, rfl⟩

theorem witness_StepRunsTheDecodedInstruction_refused :
    Instr.ane.wf = true ∧ decode [0x8B, 0x34] = .ok (.ane, []) ∧
    (∀ k, k < (slotOf 0x8B).fetched → peek refuseState (refuseState.pc + BitVec.ofNat 16 k) = [0x8B, 0x34][k]?) ∧
    refuseState.jammed = false ∧ irqTaken refuseState = false ∧ exec .ane refuseState = .refused .unstableSlot :=
  ⟨rfl, rfl, by decide, rfl, rfl, rfl⟩

theorem witness_StepCountsCycles : ∃ u, cpuStep nopState = .next (u, 2) ∧ u.peripherals[0]? = some ⟨0, []⟩ ∧
    u.cfg.ticksPerCycle[0]? = some 3 := ⟨_, rfl, rfl, rfl⟩

theorem witness_StepCountsCycles_no_rate :
    ∃ u, cpuStep { nopState with cfg := { Config.console with ticksPerCycle := [3] } } = .next (u, 2) ∧
      u.peripherals[1]? = some ⟨0, []⟩ ∧ u.cfg.ticksPerCycle[1]? = none := ⟨_, rfl, rfl, rfl⟩

theorem witness_StepCountsCycles_refused : cpuStep refuseState = .refused .unstableSlot := rfl

theorem witness_StepCostIsBounded_jammed :
    cpuStep { nopState with jammed := true } = .next ({ nopState with jammed := true }, 0) := rfl

theorem witness_StepCostIsBounded_irq : irqState.jammed = false ∧ irqTaken irqState = true ∧
    ∃ t, cpuStep irqState = .next (t, 7) := ⟨rfl, rfl, _, rfl⟩

/-- LDA absolute,X with a page cross: one more than its base cost. -/
theorem witness_StepCostIsBounded_instruction :
    let s := flatState 0 1 0 0xFF 0x20 0x0200 [(0x0200, 0xBD), (0x0201, 0xFF), (0x0202, 0x12)]
    s.jammed = false ∧ irqTaken s = false ∧ ∃ t, cpuStep s = .next (t, 5) := ⟨rfl, rfl, _, rfl⟩

theorem witness_StraightLineAdvancesPc : nopState.jammed = false ∧ irqTaken nopState = false ∧
    (∃ t, cpuStep nopState = .next (t, 2)) ∧ (fetchInstr (nopState.setPenalty 0)).1.opcode ∉ pcWriters :=
  ⟨rfl, rfl, ⟨_, rfl⟩, by decide⟩

theorem witness_EveryInstructionCompletes : Instr.nop.opcode ∉ unstableOpcodes ∧ (Instr.brk).opcode ∉ unstableOpcodes ∧
    State.reset.cfg.unstablePolicy = .nop := by decide

theorem witness_JamIsTerminal : ({ nopState with jammed := true } : State).jammed = true ∧
    (∃ t, exec .jam02 nopState = .next t ∧ t.jammed = true) ∧ nopState.jammed = false ∧
    ∃ t, cpuStep (consoleState 0 0xFF [(0, 0xF2)]) = .next (t, 2) ∧ t.jammed = true :=
  ⟨rfl, ⟨_, rfl, rfl⟩, rfl, ⟨_, rfl, rfl⟩⟩

/-- A push finds RAM on the console down to S = 0x80, and everywhere on the flat test bus. -/
theorem witness_PushAndPull : stackReady1 (consoleState 0 0x80 []) = true ∧ stackReady1 (consoleState 0 0xFF []) = true ∧
    stackReady1 (flatState 0 0 0 0x00 0x20 0x0200 []) = true := by decide

/-- Two pushes, at S = 0x00, where S wraps, and on the console at S = 0x81. -/
theorem witness_JsrThenRts : stackReady2 (flatState 0 0 0 0x00 0x20 0x0200 []) = true ∧
    stackReady2 (consoleState 0 0x81 []) = true := by decide

theorem witness_SubroutineInstructions : let s := flatState 0 0 0 0x00 0x20 0x0200 []
    stackReady2 s = true ∧ OutsideCell s 0x01FE (stackAddr s.sp) ∧ OutsideCell s 0x01FE (stackAddr (s.sp - 1)) :=
  ⟨by decide, .inr (by decide), .inr (by decide)⟩

/-- Three pushes, at S = 0x01, where S wraps, and on the console at S = 0x82. -/
theorem witness_BrkThenRti : stackReady3 (flatState 0 0 0 0x01 0x20 0x0200 []) = true ∧
    stackReady3 (consoleState 0 0x82 []) = true := by decide

theorem witness_BrkAndInterruptEntry : let s := flatState 0 0 0 0x01 0x20 0x0200 [(0xFFFE, 0x34), (0xFFFF, 0x12)]
    stackReady3 s = true ∧ peek (interruptEntry true s) 0xFFFE = some 0x34 ∧ peek (interruptEntry true s) 0xFFFF = some 0x12 ∧
    OutsideCell s 0x01FE (stackAddr s.sp) ∧ OutsideCell s 0x01FE (stackAddr (s.sp - 1)) ∧
    OutsideCell s 0x01FE (stackAddr (s.sp - 2)) :=
  ⟨by decide, by decide, by decide, .inr (by decide), .inr (by decide), .inr (by decide)⟩

theorem witness_IrqEntry : irqState.jammed = false ∧ irqTaken irqState = true ∧
    ({ irqState with jammed := true } : State).jammed = true ∧ irqTaken { irqState with jammed := true } = true := by decide

theorem witness_UnstableSlots : State.reset.cfg.unstablePolicy = .nop ∧ refuseState.cfg.unstablePolicy = .refuse := by decide

theorem witness_DecimalIsPackedBcd : isBcd 0x99 = true ∧ isBcd 0x00 = true ∧ (Status.ofByte 0x28).d = true ∧
    isBcd 0x9A = false ∧ isBcd 0xA0 = false := by decide

/-- Each clause at the edges of its range: video chip, RAM, I/O chip, cartridge, and the mirrors above 0x1FFF. -/
theorem witness_ConsoleDecode : OnConsole State.reset blankRom blankRam ∧
    route State.reset 0x0000 = .device 0 0 0 ∧ route State.reset 0x007F = .device 0 15 63 ∧
    route State.reset 0x0080 = .cell 1 blankRam 0 ∧ route State.reset 0x00FF = .cell 1 blankRam 127 ∧
    route State.reset 0x01FF = .cell 1 blankRam 127 ∧ route State.reset 0x0280 = .device 1 0 0 ∧
    route State.reset 0x0FFF = .device 1 127 127 ∧ route State.reset 0x1000 = .cell 0 blankRom 0 ∧
    route State.reset 0xFFFF = .cell 0 blankRom 4095 ∧ route State.reset 0xE080 = .cell 1 blankRam 0 :=
  ⟨⟨rfl, rfl, rfl⟩, rfl, rfl, rfl, rfl, rfl, rfl, rfl, rfl, rfl, rfl⟩

theorem witness_ConsoleStackIsZeroPage : OnConsole State.reset blankRom blankRam ∧ blankRam.cap = 128 ∧
    blankRam.readOnly = false ∧ blankRam.wf = true ∧ 128 ≤ (0x80 : Byte).toNat ∧ (0x7F : Byte).toNat < 128 :=
  ⟨⟨rfl, rfl, rfl⟩, rfl, rfl, by decide, by decide, by decide⟩

theorem witness_MemoryPrimitive : blankRam.wf = true ∧ (blankRam.put 0 1).wf = true ∧
    (∀ i, i < blankRam.cap → ((blankRam.put 0 1).put 128 0).load i = blankRam.load i) := by decide

/-- PC at 0x0180 reads the RAM cell of 0x0080; 0x0081, the cartridge and the video chip lie outside it. -/
theorem witness_StoreIsSeenAtEveryAlias : let s : State := { State.reset with pc := 0x0180 }
    writableAt s 0x0080 = true ∧ cellOf s 0xE080 = cellOf s 0x0080 ∧ cellOf s s.pc = cellOf s 0x0080 ∧
    OutsideCell s 0x0081 0x0080 ∧ OutsideCell s 0xF000 0x0080 ∧ OutsideCell s 0x0000 0x0080 :=
  ⟨by decide, by decide, by decide, .inr (by decide), .inr (by decide), .inl (by decide)⟩

theorem witness_DiscardedStores : discardsAt State.reset 0x1000 = true ∧ discardsAt State.reset 0xFFFF = true ∧
    discardsAt fallbackState 0x0000 = true ∧ route fallbackState 0x0000 = .unmapped ∧
    OnConsole State.reset blankRom blankRam := ⟨by decide, by decide, by decide, rfl, ⟨rfl, rfl, rfl⟩⟩

theorem witness_PeripheralBoundary : route State.reset 0x0280 = .device 1 0 0 ∧ State.reset.peripherals[1]? = some ⟨0, []⟩ ∧
    ∀ k r w, route State.reset 0x0080 ≠ .device k r w := ⟨rfl, rfl, fun _ _ _ h => nomatch h⟩

theorem witness_ObserversAreToldInOrder : route State.reset 0x0085 = .cell 1 blankRam 5 ∧ blankRam.readOnly = false ∧
    (∀ k m off, route State.reset 0xF000 = .cell k m off → m.readOnly = true ∨ m.observers = []) :=
  ⟨rfl, rfl, fun _ _ _ h => by cases h; exact .inl rfl⟩

/-- The console with two observers at the RAM, and PC at the start of the cartridge. -/
def observedState (rom : List Host.Cell) : State := registerObserver (registerObserver (consoleState 0x5A 0xFF rom) 1 8) 1 9

/-- The clauses of `StoresByte`: RAM and its aliases, RAM with observers, the cartridge, the fallback range, a peripheral, and
bytes outside the cell. -/
theorem witness_StoresByte : writableAt State.reset 0x00FF = true ∧ cellOf State.reset 0xE1FF = cellOf State.reset 0x00FF ∧
    route (observedState []) 0x00FF = .cell 1 { blankRam with observers := [8, 9] } 127 ∧ blankRam.readOnly = false ∧
    discardsAt State.reset 0xF000 = true ∧ discardsAt fallbackState 0x0200 = true ∧
    route State.reset 0x0002 = .device 0 2 2 ∧ OutsideCell State.reset 0x00FE 0x00FF ∧
    (∀ k r w, route State.reset 0x00FF ≠ .device k r w) :=
  ⟨by decide, by decide, rfl, rfl, by decide, by decide, rfl, .inr (by decide), fun _ _ _ h => nomatch h⟩

/-- INC zero-page writes its byte once, and each observer is told of it once, in registration order (spec 20_memory R65, R71,
R72). -/
theorem test_modify_tells_observers_once :
    ∃ t, step (observedState [(0, 0xE6), (1, 0xFF)]) = .next t ∧ t.notifications = [⟨1, 9, 127, 1⟩, ⟨1, 8, 127, 1⟩] :=
  ⟨_, rfl, rfl⟩

/-- PLP changes every flag and S. -/
theorem witness_RegisterAndFlagWriters : let s := flatState 0 0 0 0x00 0x30 0x0200 [(0x0101, 0xEF)]
    ∃ t, exec .plp s = .next t ∧ t.p.n ≠ s.p.n ∧ t.p.z ≠ s.p.z ∧ t.p.v ≠ s.p.v ∧ t.p.c ≠ s.p.c ∧ t.p.d ≠ s.p.d ∧
      t.p.i ≠ s.p.i ∧ t.p.b ≠ s.p.b ∧ t.sp ≠ s.sp :=
  ⟨_, rfl, by decide, by decide, by decide, by decide, by decide, by decide, by decide, by decide⟩

theorem witness_RegisterAndFlagWriters_registers : let s := flatState 0 0 0 0xFF 0x20 0x0200 []
    (∃ t, exec (.ldaImm 1) s = .next t ∧ t.a ≠ s.a) ∧ (∃ t, exec (.ldxImm 1) s = .next t ∧ t.x ≠ s.x) ∧
    ∃ t, exec (.ldyImm 1) s = .next t ∧ t.y ≠ s.y :=
  ⟨⟨_, rfl, by decide⟩, ⟨_, rfl, by decide⟩, ⟨_, rfl, by decide⟩⟩

theorem witness_LoadRomCopiesTheImage : State.reset.memories[0]? = some blankRom ∧ blankRom.wf = true ∧
    0 < blankRom.cap ∧ 4095 < blankRom.cap := by decide

theorem witness_StepKeepsWellFormedness : nopState.wf = true ∧ ∃ t, step nopState = .next t := ⟨by decide, _, rfl⟩

theorem witness_StepKeepsRomAndShape : (∃ t, step nopState = .next t) ∧
    nopState.memories[0]? = some { blankRom with cells := [(0, 0xEA)] } ∧ blankRom.readOnly = true := ⟨⟨_, rfl⟩, rfl, rfl⟩

theorem witness_NothingReadsTheCycleCount : (∃ t, step nopState = .next t) ∧ step refuseState = .refused .unstableSlot :=
  ⟨⟨_, rfl⟩, rfl⟩

theorem witness_NothingReadsTheStoredBreak : (∃ t, step (consoleState 0 0xFF [(0, 0x08)]) = .next t) ∧
    step refuseState = .refused .unstableSlot := ⟨⟨_, rfl⟩, rfl⟩

end Sys2Proof.Tests
end

namespace Sys2Proof.Machine

open Sys2Proof.Claims

/-! ### The next state of an outcome -/

/-- What an outcome says of its next state; a fault or a refusal says nothing. -/
def OnNext (P : State → Prop) : Host.Outcome State Fault Refusal → Prop
  | .next t => P t
  | .fault _ => True
  | .refused _ => True

theorem onNext_unstable {P : State → Prop} {t : State} (h : P t) (cfg : Config) : OnNext P (unstable cfg t) := by
  unfold unstable
  split
  · exact h
  · trivial

/-! ### The opcode map: every slot holds instructions of its own opcode and length -/

/-- The opcode byte and the length of an instruction (spec 30_encoding R90, R92). -/
structure Encodes (i : Instr) (op : Byte) (len : Nat) : Prop where
  opcode : i.opcode = op
  length : i.length = len

/-- Whatever its operand, the instruction of a slot has the opcode `op` and the slot's length. -/
def SlotFits (op : Byte) : Slot → Prop
  | .bare i => Encodes i op 1
  | .skip i => Encodes i op 2
  | .byte f => ∀ b, Encodes (f b) op 2
  | .word f => ∀ w, Encodes (f w) op 3

/-- The slots fit the opcodes from `k` on. -/
def SlotsFitFrom : Nat → List Slot → Prop
  | _, [] => True
  | k, slot :: rest => SlotFits (BitVec.ofNat 8 k) slot ∧ SlotsFitFrom (k + 1) rest

theorem slotsFitFrom_append {k : Nat} {l l' : List Slot} (h : SlotsFitFrom k l) (h' : SlotsFitFrom (k + l.length) l') :
    SlotsFitFrom k (l ++ l') := by
  induction l generalizing k with
  | nil => exact h'
  | cons slot rest ih =>
    refine ⟨h.1, ih h.2 ?_⟩
    rw [List.length_cons] at h'
    rwa [Nat.add_right_comm, Nat.add_assoc]

theorem slotsFitFrom_getElem {k j : Nat} {l : List Slot} (h : SlotsFitFrom k l) (hj : j < l.length) :
    SlotFits (BitVec.ofNat 8 (k + j)) l[j] := by
  induction l generalizing k j with
  | nil => cases hj
  | cons slot rest ih =>
    cases j with
    | zero => exact h.1
    | succ j => simpa [Nat.add_right_comm, Nat.add_assoc] using ih h.2 (Nat.lt_of_succ_lt_succ hj)

/-- The opcode map, row by row: the instruction of every slot is encoded with that slot's opcode. -/
theorem opcodeMap_fits : SlotsFitFrom 0 opcodeMap := by
  unfold opcodeMap
  repeat' refine slotsFitFrom_append ?_ ?_
  all_goals
    simp only [SlotsFitFrom, SlotFits, and_true, opcodeRow0, opcodeRow1, opcodeRow2, opcodeRow3, opcodeRow4, opcodeRow5,
      opcodeRow6, opcodeRow7, opcodeRow8, opcodeRow9, opcodeRowA, opcodeRowB, opcodeRowC, opcodeRowD, opcodeRowE, opcodeRowF]
    and_intros
    all_goals
      intros
      exact ⟨rfl, rfl⟩

theorem slotOf_fits (op : Byte) : SlotFits op (slotOf op) := by
  simpa [slotOf] using slotsFitFrom_getElem opcodeMap_fits (j := op.toNat) (by rw [opcodeMap_length]; exact op.isLt)

/-! ### Instruction fetch (spec 40_addressing_modes R110) -/

@[simp] theorem fetchByte_value (s : State) : (fetchByte s).1 = (load s s.pc).1 := rfl

/-- The instruction fetched has the byte the Bus gives at PC as its opcode, and its slot's length. -/
theorem fetchInstr_encodes (s : State) :
    Encodes (fetchInstr s).1 (load s s.pc).1 (slotOf (load s s.pc).1).length := by
  have h := slotOf_fits (load s s.pc).1
  unfold fetchInstr
  dsimp only
  rw [fetchByte_value]
  generalize slotOf (load s s.pc).1 = slot at h ⊢
  cases slot with
  | bare i => exact h
  | skip i => exact h
  | byte f => exact h _
  | word f => exact h _

@[simp] theorem fetchInstr_pc (s : State) :
    (fetchInstr s).2.pc = s.pc + BitVec.ofNat 16 (slotOf (load s s.pc).1).fetched := by
  unfold fetchInstr
  dsimp only
  rw [fetchByte_value]
  cases slotOf (load s s.pc).1 with
  | bare i => simp [Slot.fetched]
  | skip i => simp [Slot.fetched]
  | byte f => simpa [Slot.fetched] using pc_add_two s.pc
  | word f =>
    simp only [Slot.fetched, fetchWord_pc, setCurrentOpcode_pc, fetchByte_pc]
    bv_omega

@[simp] theorem fetchInstr_currentOpcode (s : State) : (fetchInstr s).2.currentOpcode = (load s s.pc).1 := by
  unfold fetchInstr; dsimp only; split <;> simp
@[simp] theorem fetchInstr_jammed (s : State) : (fetchInstr s).2.jammed = s.jammed := by
  unfold fetchInstr; dsimp only; split <;> simp
@[simp] theorem fetchInstr_penalty (s : State) : (fetchInstr s).2.penalty = s.penalty := by
  unfold fetchInstr; dsimp only; split <;> simp
@[simp] theorem fetchInstr_cfg (s : State) : (fetchInstr s).2.cfg = s.cfg := by
  unfold fetchInstr; dsimp only; split <;> simp

/-! ### The CPU's step -/

theorem cpuStep_of_jammed {s : State} (hj : s.jammed = true) : cpuStep s = .next (s, 0) := by
  simp [cpuStep, hj]

theorem cpuStep_of_irqTaken {s : State} (hj : s.jammed = false) (hi : irqTaken s = true) :
    cpuStep s = .next (interruptEntry false s, s.cfg.irqCycles) := by
  simp [cpuStep, hj, hi]

/-- A step that is neither jammed nor an IRQ entry runs the instruction it fetched, with the penalty cleared. -/
theorem exec_of_cpuStep {s t : State} {c : Nat} (hj : s.jammed = false) (hi : irqTaken s = false)
    (h : cpuStep s = .next (t, c)) :
    exec (fetchInstr (s.setPenalty 0)).1 (fetchInstr (s.setPenalty 0)).2 = .next t ∧
      c = nominalCycles t.cfg t.currentOpcode + t.penalty := by
  simp only [cpuStep, hj, hi, Bool.false_eq_true, if_false] at h
  split at h
  · rename_i u hu
    cases h
    exact ⟨hu, rfl⟩
  · cases h
  · cases h

theorem tickAll_zero (rates : List Nat) (ps : List Peripheral) : tickAll 0 rates ps = ps := by
  induction rates generalizing ps with
  | nil => rfl
  | cons rate rates ih =>
    cases ps with
    | nil => rfl
    | cons p ps => simp [tickAll, ih]

/-- A step that costs nothing ticks nothing. -/
@[simp] theorem computerTick_zero (s : State) : computerTick 0 s = s := by
  simp [computerTick, tickAll_zero]

/-! ### What each instruction may write (spec 10_state R21 to R31) -/

/-- The flags a memory operand's modification leaves are those `f` gives for the byte read. -/
@[simp] theorem modifyOperand_memory_p (m : AddrMode) (f : Byte → Status → Byte × Status) (s : State) :
    (modifyOperand (.memory m) f s).2.p = (f (load (resolve m s).state (resolve m s).ea).1 s.p).2 := by
  simp [modifyOperand]

@[simp] theorem addCore_d (a m : Byte) (p : Status) : (addCore a m p).2.d = p.d := by
  unfold addCore; dsimp only; split_ifs <;> rfl
@[simp] theorem addCore_i (a m : Byte) (p : Status) : (addCore a m p).2.i = p.i := by
  unfold addCore; dsimp only; split_ifs <;> rfl
@[simp] theorem addCore_b (a m : Byte) (p : Status) : (addCore a m p).2.b = p.b := by
  unfold addCore; dsimp only; split_ifs <;> rfl
@[simp] theorem subCore_d (a m : Byte) (p : Status) : (subCore a m p).2.d = p.d := by
  unfold subCore; dsimp only; split_ifs <;> rfl
@[simp] theorem subCore_i (a m : Byte) (p : Status) : (subCore a m p).2.i = p.i := by
  unfold subCore; dsimp only; split_ifs <;> rfl
@[simp] theorem subCore_b (a m : Byte) (p : Status) : (subCore a m p).2.b = p.b := by
  unfold subCore; dsimp only; split_ifs <;> rfl

/-- The parts of the CPU whose writers the spec lists: the flags, the registers and `jammed`. -/
inductive Part where
  | n | z | v | c | d | i | b | a | x | y | sp | pc | jammed

/-- The opcodes that pass over their second byte with no read and transfer no control (spec 40_addressing_modes R115,
47_illegal R253, R255). -/
def passOverOpcodes : List Byte := [0x80, 0x82, 0x89, 0x8B, 0xAB, 0xC2, 0xE2]

/-- The opcodes whose execution, after the fetch, may write a part. -/
def Part.writers : Part → List Byte
  | .n => nzWriters
  | .z => nzWriters
  | .v => vWriters
  | .c => cWriters
  | .d => dWriters
  | .i => iWriters
  | .b => bWriters
  | .a => aWriters
  | .x => xWriters
  | .y => yWriters
  | .sp => spWriters
  | .pc => pcWriters ++ passOverOpcodes
  | .jammed => jamOpcodes

/-- Between `s` and `t` only the parts `ws` may differ; `currentOpcode` does not. -/
structure ChangesOnly (ws : List Part) (s t : State) : Prop where
  n : .n ∈ ws ∨ t.p.n = s.p.n
  z : .z ∈ ws ∨ t.p.z = s.p.z
  v : .v ∈ ws ∨ t.p.v = s.p.v
  c : .c ∈ ws ∨ t.p.c = s.p.c
  d : .d ∈ ws ∨ t.p.d = s.p.d
  i : .i ∈ ws ∨ t.p.i = s.p.i
  b : .b ∈ ws ∨ t.p.b = s.p.b
  a : .a ∈ ws ∨ t.a = s.a
  x : .x ∈ ws ∨ t.x = s.x
  y : .y ∈ ws ∨ t.y = s.y
  sp : .sp ∈ ws ∨ t.sp = s.sp
  pc : .pc ∈ ws ∨ t.pc = s.pc
  jammed : .jammed ∈ ws ∨ t.jammed = s.jammed
  currentOpcode : t.currentOpcode = s.currentOpcode

/-- The next state, if there is one, differs only in parts of which `op` is a listed writer. -/
def WritesAsListed (op : Byte) (s : State) (o : Host.Outcome State Fault Refusal) : Prop :=
  ∃ ws, (∀ part ∈ ws, op ∈ part.writers) ∧ OnNext (ChangesOnly ws s) o

/-- Every opcode of `ops` is a listed writer of every part of `ws`. -/
def listed (ops : List Byte) (ws : List Part) : Bool := ws.all fun part => ops.all part.writers.contains

theorem mem_writers_of_listed {op : Byte} {ops : List Byte} {ws : List Part} (hop : op ∈ ops) (hl : listed ops ws = true)
    {part : Part} (hp : part ∈ ws) : op ∈ part.writers :=
  List.contains_iff_mem.mp (List.all_eq_true.mp (List.all_eq_true.mp hl part hp) op hop)

theorem not_mem_of_all_not {op : Byte} {ops excluded : List Byte} (hop : op ∈ ops)
    (hx : (ops.all fun b => !excluded.contains b) = true) : op ∉ excluded := fun hm => by
  simpa [hm] using List.all_eq_true.mp hx op hop

section
variable {op : Byte} {s t : State} (ws : List Part) {ops : List Byte} (hop : op ∈ ops) (hl : listed ops ws = true)
  (hc : ChangesOnly ws s t)
include hop hl hc

theorem writesAsListed_next : WritesAsListed op s (.next t) :=
  ⟨ws, fun _ hp => mem_writers_of_listed hop hl hp, hc⟩

theorem writesAsListed_unstable (cfg : Config) : WritesAsListed op s (unstable cfg t) :=
  ⟨ws, fun _ hp => mem_writers_of_listed hop hl hp, onNext_unstable hc cfg⟩

end

theorem branch_changesOnly (cond : Bool) (d : Byte) (s : State) : ChangesOnly [.pc] s (branch cond d s) := by
  unfold branch
  dsimp only
  split
  · split <;> constructor <;> simp
  · constructor <;> simp

theorem skipByte_changesOnly (s : State) : ChangesOnly [.pc] s (skipByte s) := by
  constructor <;> simp [skipByte]

/-- Every meaning writes only parts of which its opcodes are listed writers: one case per set of parts written. -/
theorem ran_writesAsListed {op : Byte} {s : State} {o : Host.Outcome State Fault Refusal} (r : Ran op s o) :
    WritesAsListed op s o := by
  cases r
  case loadA src h | andA src h | orA src h | eorA src h =>
    exact writesAsListed_next [.n, .z, .a] h rfl (by constructor <;> simp [loadA, andA, orA, eorA])
  case txa h | tya h =>
    exact writesAsListed_next [.n, .z, .a] h rfl (by constructor <;> simp)
  case loadX src h | tax h | tsx h | inx h | dex h =>
    exact writesAsListed_next [.n, .z, .x] h rfl (by constructor <;> simp [loadX])
  case loadY src h | tay h | iny h | dey h =>
    exact writesAsListed_next [.n, .z, .y] h rfl (by constructor <;> simp [loadY])
  case loadAX src h =>
    exact writesAsListed_next [.n, .z, .a, .x] h rfl (by constructor <;> simp [loadAX])
  case addWithCarry src h | subtractWithBorrow src h | usbc n h =>
    exact writesAsListed_next [.n, .z, .v, .c, .a] h rfl
      (by constructor <;> simp [addWithCarry, subtractWithBorrow])
  case rotateRightAdd m h | incrementSubtract m h =>
    exact writesAsListed_next [.n, .z, .v, .c, .a] h rfl
      (by constructor <;> simp [rotateRightAdd, incrementSubtract, rorCore, incOnly])
  case arr n h =>
    exact writesAsListed_next [.n, .z, .v, .c, .a] h rfl (by constructor <;> simp [immediateCore, arrCore])
  case anc n h | alr n h =>
    exact writesAsListed_next [.n, .z, .c, .a] h rfl
      (by constructor <;> simp [immediateCore, ancCore, alrCore, lsrCore])
  case shiftLeftOr m h | rotateLeftAnd m h | shiftRightEor m h =>
    exact writesAsListed_next [.n, .z, .c, .a] h rfl
      (by constructor <;> simp [shiftLeftOr, rotateLeftAnd, shiftRightEor, aslCore, rolCore, lsrCore])
  case shiftLeftAccumulator h | shiftRightAccumulator h | rotateLeftAccumulator h | rotateRightAccumulator h =>
    exact writesAsListed_next [.n, .z, .c, .a] h rfl
      (by constructor <;> simp [shiftLeft, shiftRight, rotateLeft, rotateRight, modifyOperand, aslCore, lsrCore, rolCore,
        rorCore])
  case shiftLeft m h | shiftRight m h | rotateLeft m h | rotateRight m h =>
    exact writesAsListed_next [.n, .z, .c] h rfl
      (by constructor <;> simp [shiftLeft, shiftRight, rotateLeft, rotateRight, aslCore, lsrCore, rolCore, rorCore])
  case incrementMemory m h | decrementMemory m h =>
    exact writesAsListed_next [.n, .z] h rfl
      (by constructor <;> simp [incrementMemory, decrementMemory, incCore, decCore])
  case compareA src h | compareX src h | compareY src h | decrementCompare m h =>
    exact writesAsListed_next [.n, .z, .c] h rfl
      (by constructor <;> simp [compareA, compareX, compareY, decrementCompare, Status.compare, decOnly])
  case sbx n h =>
    exact writesAsListed_next [.n, .z, .c, .x] h rfl (by constructor <;> simp [sbxCore])
  case bitTest src h =>
    exact writesAsListed_next [.n, .z, .v] h rfl (by constructor <;> simp [bitTest, Status.bit])
  case storeA m h | storeX m h | storeY m h | storeAX m h =>
    exact writesAsListed_next [] h rfl (by constructor <;> simp [storeA, storeX, storeY, storeAX])
  case nopAddressed m h | nopImplied h =>
    exact writesAsListed_next [] h rfl (by constructor <;> simp [nopAddressed])
  case unstable m h =>
    exact writesAsListed_unstable [] h rfl (by constructor <;> simp) s.cfg
  case unstableImmediate h =>
    exact writesAsListed_unstable [.pc] h rfl (skipByte_changesOnly s) s.cfg
  case nopImmediate h => exact writesAsListed_next [.pc] h rfl (skipByte_changesOnly s)
  case jam h => exact writesAsListed_next [.jammed] h rfl (by constructor <;> simp [jam])
  case bpl d h | bmi d h | bvc d h | bvs d h | bcc d h | bcs d h | bne d h | beq d h =>
    exact writesAsListed_next [.pc] h rfl (branch_changesOnly _ d s)
  case jmpAbs nn h | jmpInd ptr h => exact writesAsListed_next [.pc] h rfl (by constructor <;> simp)
  case txs h | pha h | php h => exact writesAsListed_next [.sp] h rfl (by constructor <;> simp)
  case jsr nn h | rts h => exact writesAsListed_next [.sp, .pc] h rfl (by constructor <;> simp)
  case pla h => exact writesAsListed_next [.n, .z, .a, .sp] h rfl (by constructor <;> simp)
  case plp h => exact writesAsListed_next [.n, .z, .v, .c, .d, .i, .b, .sp] h rfl (by constructor <;> simp)
  case rti h =>
    exact writesAsListed_next [.n, .z, .v, .c, .d, .i, .b, .sp, .pc] h rfl (by constructor <;> simp)
  case brk h => exact writesAsListed_next [.i, .sp, .pc] h rfl (by constructor <;> simp [skipByte])
  case clc h | sec h => exact writesAsListed_next [.c] h rfl (by constructor <;> simp)
  case cli h | sei h => exact writesAsListed_next [.i] h rfl (by constructor <;> simp)
  case cld h | sed h => exact writesAsListed_next [.d] h rfl (by constructor <;> simp)
  case clv h => exact writesAsListed_next [.v] h rfl (by constructor <;> simp)

theorem exec_writesAsListed {i : Instr} {s t : State} (h : exec i s = .next t) :
    ∃ ws, (∀ part ∈ ws, i.opcode ∈ part.writers) ∧ ChangesOnly ws s t := by
  have hw := ran_writesAsListed (exec_ran i s)
  rwa [h] at hw

/-! ### The opcodes that name one meaning -/

/-- Only the meaning of JAM runs under a JAM opcode (spec 47_illegal R254). -/
theorem ran_of_jamOpcode {op : Byte} {s : State} {o : Host.Outcome State Fault Refusal} (r : Ran op s o)
    (h : op ∈ jamOpcodes) : o = .next s.halt := by
  cases r
  case jam => rfl
  all_goals
    rename_i hop
    exact absurd h (not_mem_of_all_not hop rfl)

/-- Only a skipped byte runs under an opcode that passes over its second byte. -/
theorem ran_of_passOver {op : Byte} {s : State} {o : Host.Outcome State Fault Refusal} (r : Ran op s o)
    (h : op ∈ passOverOpcodes) : OnNext (fun t => t = skipByte s) o := by
  cases r
  case nopImmediate => rfl
  case unstableImmediate => exact onNext_unstable (P := fun t => t = skipByte s) rfl s.cfg
  all_goals
    rename_i hop
    exact absurd h (not_mem_of_all_not hop rfl)

end Sys2Proof.Machine

namespace Sys2Proof.Machine

open Sys2Proof.Claims

/-! ### A disguise: the two fields that no step reads -/

/-- P with its stored B replaced by `g` of it. -/
def Status.mapB (g : Bool → Bool) (p : Status) : Status := { p with b := g p.b }

/-- The state with `n` more elapsed cycles and its stored B replaced by `g` of it (spec 10_state R28, R33). -/
def State.disguise (n : Nat) (g : Bool → Bool) (s : State) : State := { s with total := s.total + n, p := s.p.mapB g }

@[simp] theorem Status.mapB_n (g : Bool → Bool) (p : Status) : (p.mapB g).n = p.n := rfl
@[simp] theorem Status.mapB_v (g : Bool → Bool) (p : Status) : (p.mapB g).v = p.v := rfl
@[simp] theorem Status.mapB_b (g : Bool → Bool) (p : Status) : (p.mapB g).b = g p.b := rfl
@[simp] theorem Status.mapB_d (g : Bool → Bool) (p : Status) : (p.mapB g).d = p.d := rfl
@[simp] theorem Status.mapB_i (g : Bool → Bool) (p : Status) : (p.mapB g).i = p.i := rfl
@[simp] theorem Status.mapB_z (g : Bool → Bool) (p : Status) : (p.mapB g).z = p.z := rfl
@[simp] theorem Status.mapB_c (g : Bool → Bool) (p : Status) : (p.mapB g).c = p.c := rfl
@[simp] theorem Status.setNZ_mapB (g : Bool → Bool) (p : Status) (v : Byte) :
    (p.mapB g).setNZ v = (p.setNZ v).mapB g := rfl
@[simp] theorem Status.compare_mapB (g : Bool → Bool) (p : Status) (r m : Byte) :
    (p.mapB g).compare r m = (p.compare r m).mapB g := rfl
@[simp] theorem Status.bit_mapB (g : Bool → Bool) (p : Status) (a m : Byte) :
    (p.mapB g).bit a m = (p.bit a m).mapB g := rfl

section
variable (n : Nat) (g : Bool → Bool) (s : State)

@[simp] theorem disguise_a : (s.disguise n g).a = s.a := rfl
@[simp] theorem disguise_x : (s.disguise n g).x = s.x := rfl
@[simp] theorem disguise_y : (s.disguise n g).y = s.y := rfl
@[simp] theorem disguise_sp : (s.disguise n g).sp = s.sp := rfl
@[simp] theorem disguise_pc : (s.disguise n g).pc = s.pc := rfl
@[simp] theorem disguise_p : (s.disguise n g).p = s.p.mapB g := rfl
@[simp] theorem disguise_jammed : (s.disguise n g).jammed = s.jammed := rfl
@[simp] theorem disguise_currentOpcode : (s.disguise n g).currentOpcode = s.currentOpcode := rfl
@[simp] theorem disguise_penalty : (s.disguise n g).penalty = s.penalty := rfl
@[simp] theorem disguise_cfg : (s.disguise n g).cfg = s.cfg := rfl

@[simp] theorem setA_disguise (v : Byte) : (s.disguise n g).setA v = (s.setA v).disguise n g := rfl
@[simp] theorem setX_disguise (v : Byte) : (s.disguise n g).setX v = (s.setX v).disguise n g := rfl
@[simp] theorem setY_disguise (v : Byte) : (s.disguise n g).setY v = (s.setY v).disguise n g := rfl
@[simp] theorem setSp_disguise (v : Byte) : (s.disguise n g).setSp v = (s.setSp v).disguise n g := rfl
@[simp] theorem setPc_disguise (w : Word) : (s.disguise n g).setPc w = (s.setPc w).disguise n g := rfl
@[simp] theorem setP_disguise (p : Status) : (s.disguise n g).setP (p.mapB g) = (s.setP p).disguise n g := rfl
@[simp] theorem setP_mk_disguise (fn fv fb fd fi fz fc : Bool) :
    (s.disguise n g).setP ⟨fn, fv, g fb, fd, fi, fz, fc⟩ = (s.setP ⟨fn, fv, fb, fd, fi, fz, fc⟩).disguise n g := rfl
@[simp] theorem setCurrentOpcode_disguise (op : Byte) :
    (s.disguise n g).setCurrentOpcode op = (s.setCurrentOpcode op).disguise n g := rfl
@[simp] theorem setPenalty_disguise (k : Nat) : (s.disguise n g).setPenalty k = (s.setPenalty k).disguise n g := rfl
@[simp] theorem charge_disguise (k : Nat) : (s.disguise n g).charge k = (s.charge k).disguise n g := rfl
@[simp] theorem halt_disguise : (s.disguise n g).halt = s.halt.disguise n g := rfl
@[simp] theorem setNZ_disguise (v : Byte) : (s.disguise n g).setNZ v = (s.setNZ v).disguise n g := rfl
@[simp] theorem skipByte_disguise : skipByte (s.disguise n g) = (skipByte s).disguise n g := rfl

/-- P written outright leaves nothing of the old B: only the count stays disguised. -/
theorem setP_disguise_id (p : Status) : (s.disguise n g).setP p = (s.setP p).disguise n id := rfl

/-! ### Operations over the Bus commute with a disguise -/

@[simp] theorem load_disguise (addr : Word) :
    load (s.disguise n g) addr = ((load s addr).1, (load s addr).2.disguise n g) := by
  unfold load
  rw [route_congr (t := s.disguise n g) (s := s) rfl rfl]
  split <;> rfl

@[simp] theorem store_disguise (addr : Word) (v : Byte) :
    store (s.disguise n g) addr v = (store s addr v).disguise n g := by
  unfold store
  rw [route_congr (t := s.disguise n g) (s := s) rfl rfl]
  split
  · split <;> rfl
  · rfl
  · rfl

@[simp] theorem loadWord_disguise (addr : Word) :
    loadWord (s.disguise n g) addr = ((loadWord s addr).1, (loadWord s addr).2.disguise n g) := by
  simp [loadWord]

@[simp] theorem fetchByte_disguise :
    fetchByte (s.disguise n g) = ((fetchByte s).1, (fetchByte s).2.disguise n g) := by
  simp [fetchByte]

@[simp] theorem fetchWord_disguise :
    fetchWord (s.disguise n g) = ((fetchWord s).1, (fetchWord s).2.disguise n g) := by
  simp [fetchWord]

@[simp] theorem push_disguise (v : Byte) : push (s.disguise n g) v = (push s v).disguise n g := by
  simp [push]

@[simp] theorem pull_disguise : pull (s.disguise n g) = ((pull s).1, (pull s).2.disguise n g) := by
  simp [pull]

@[simp] theorem zeroPagePointer_disguise (z : Byte) :
    zeroPagePointer (s.disguise n g) z = ((zeroPagePointer s z).1, (zeroPagePointer s z).2.disguise n g) := by
  simp [zeroPagePointer]

@[simp] theorem indirectTarget_disguise (ptr : Word) :
    indirectTarget ptr (s.disguise n g) = ((indirectTarget ptr s).1, (indirectTarget ptr s).2.disguise n g) := by
  simp [indirectTarget]

@[simp] theorem resolve_disguise (m : AddrMode) :
    resolve m (s.disguise n g) = { resolve m s with state := (resolve m s).state.disguise n g } := by
  cases m <;> simp [resolve, indexed]

@[simp] theorem chargeCross_disguise (r : Resolved) :
    chargeCross { r with state := r.state.disguise n g } = (chargeCross r).disguise n g := by
  unfold chargeCross
  dsimp only
  split <;> rfl

@[simp] theorem readOperand_disguise (src : Source) :
    readOperand src (s.disguise n g) = ((readOperand src s).1, (readOperand src s).2.disguise n g) := by
  cases src <;> simp [readOperand]

@[simp] theorem writeOperand_disguise (m : AddrMode) (v : Byte) :
    writeOperand m v (s.disguise n g) = (writeOperand m v s).disguise n g := by
  simp [writeOperand]

end

/-! ### The flag computations read no stored B -/

/-- A core of a byte and P passes the stored B through and computes nothing from it. -/
def BreakBlind (f : Byte → Status → Byte × Status) : Prop :=
  ∀ (g : Bool → Bool) (m : Byte) (p : Status), f m (p.mapB g) = ((f m p).1, (f m p).2.mapB g)

@[simp] theorem aslCore_breakBlind : BreakBlind aslCore := fun _ _ _ => rfl
@[simp] theorem lsrCore_breakBlind : BreakBlind lsrCore := fun _ _ _ => rfl
@[simp] theorem rolCore_breakBlind : BreakBlind rolCore := fun _ _ _ => rfl
@[simp] theorem rorCore_breakBlind : BreakBlind rorCore := fun _ _ _ => rfl
@[simp] theorem incCore_breakBlind : BreakBlind incCore := fun _ _ _ => rfl
@[simp] theorem decCore_breakBlind : BreakBlind decCore := fun _ _ _ => rfl
@[simp] theorem incOnly_breakBlind : BreakBlind incOnly := fun _ _ _ => rfl
@[simp] theorem decOnly_breakBlind : BreakBlind decOnly := fun _ _ _ => rfl
@[simp] theorem ancCore_breakBlind (a : Byte) : BreakBlind (ancCore a) := fun _ _ _ => rfl
@[simp] theorem alrCore_breakBlind (a : Byte) : BreakBlind (alrCore a) := fun _ _ _ => rfl
@[simp] theorem arrCore_breakBlind (a : Byte) : BreakBlind (arrCore a) := fun _ _ _ => rfl
@[simp] theorem sbxCore_breakBlind (a x : Byte) : BreakBlind (sbxCore a x) := fun _ _ _ => rfl

@[simp] theorem addCore_breakBlind (a : Byte) : BreakBlind (addCore a) := by
  rintro g m ⟨n, v, b, d, i, z, c⟩
  cases d with
  | false => rfl
  | true =>
    dsimp only [addCore, Status.mapB, if_true]
    split_ifs <;> rfl

@[simp] theorem subCore_breakBlind (a : Byte) : BreakBlind (subCore a) := by
  rintro g m ⟨n, v, b, d, i, z, c⟩
  cases d with
  | false => rfl
  | true =>
    dsimp only [subCore, Status.mapB, if_true]
    split_ifs <;> rfl

/-- The copy of P an interrupt entry pushes holds the entry's own B, not the stored one (spec 60_exceptions R271). -/
theorem pushedStatus_eq_toByte (p : Status) (b : Bool) : pushedStatus p b = Status.toByte { p with b := b } := by
  obtain ⟨n, v, b', d, i, z, c⟩ := p
  revert n v b' d i z c b
  decide

/-- The copy of P that PHP pushes has B set, whatever the stored one (spec 42_stack R163). -/
theorem toByte_or_break (p : Status) : p.toByte ||| 0x30 = Status.toByte { p with b := true } := by
  obtain ⟨n, v, b, d, i, z, c⟩ := p
  revert n v b d i z c
  decide

/-! ### Meanings commute with a disguise -/

section
variable (n : Nat) (g : Bool → Bool) (s : State)

@[simp] theorem pushedStatus_mapB (p : Status) (b : Bool) : pushedStatus (p.mapB g) b = pushedStatus p b := by
  rw [pushedStatus_eq_toByte, pushedStatus_eq_toByte]
  rfl

theorem toByte_mapB_or_break (p : Status) : (p.mapB g).toByte ||| 0x30 = p.toByte ||| 0x30 := by
  rw [toByte_or_break, toByte_or_break]
  rfl

@[simp] theorem modifyOperand_disguise (dst : Dest) {f : Byte → Status → Byte × Status} (hf : BreakBlind f) :
    modifyOperand dst f (s.disguise n g) = ((modifyOperand dst f s).1, (modifyOperand dst f s).2.disguise n g) := by
  cases dst <;> simp [modifyOperand, hf g]

@[simp] theorem chargeDecimal_disguise : (s.disguise n g).chargeDecimal = s.chargeDecimal.disguise n g := by
  unfold State.chargeDecimal
  by_cases h : s.p.d = true <;> simp [h]

@[simp] theorem add_disguise (m : Byte) : (s.disguise n g).add m = (s.add m).disguise n g := by
  simp [State.add, addCore_breakBlind s.a g m s.p]

@[simp] theorem sub_disguise (m : Byte) : (s.disguise n g).sub m = (s.sub m).disguise n g := by
  simp [State.sub, subCore_breakBlind s.a g m s.p]

@[simp] theorem branch_disguise (cond : Bool) (d : Byte) :
    branch cond d (s.disguise n g) = (branch cond d s).disguise n g := by
  cases cond with
  | false => rfl
  | true => by_cases h : pageDiffers s.pc (s.pc + sext d) = true <;> simp [branch, relativeTarget, h]

@[simp] theorem interruptEntry_disguise (b : Bool) :
    interruptEntry b (s.disguise n g) = (interruptEntry b s).disguise n g := by
  simp [interruptEntry]

/-- RTI writes B on both sides, so only the count stays disguised (spec 45_control R224). -/
@[simp] theorem returnFromInterrupt_disguise :
    returnFromInterrupt (s.disguise n g) = (returnFromInterrupt s).disguise n id := by
  simp [returnFromInterrupt, setP_disguise_id]

@[simp] theorem fetchInstr_disguise : fetchInstr (s.disguise n g) = ((fetchInstr s).1, (fetchInstr s).2.disguise n g) := by
  simp only [fetchInstr, fetchByte_disguise, setCurrentOpcode_disguise]
  split <;> simp

@[simp] theorem immediateCore_disguise (m : Byte) {core : Byte → Byte → Status → Byte × Status}
    (h : BreakBlind (core s.a)) : immediateCore core m (s.disguise n g) = (immediateCore core m s).disguise n g := by
  simp [immediateCore, h g m s.p]

end

/-! ### Two runs of which one is disguised -/

/-- The outcome with its next state changed. -/
def mapNext {σ τ : Type} (f : σ → τ) : Host.Outcome σ Fault Refusal → Host.Outcome τ Fault Refusal
  | .next t => .next (f t)
  | .fault r => .fault r
  | .refused r => .refused r

/-- How `g` relates the stored B's after a step: it still does, or both runs have written the same B. -/
def KeptOrWritten (g g' : Bool → Bool) : Prop := g' = g ∨ g' = id

/-- The outcome `o'` is `o` in a disguise of `n` cycles and, unless both runs wrote B, of `g`. -/
def Disguised (n : Nat) (g : Bool → Bool) (o o' : Host.Outcome State Fault Refusal) : Prop :=
  ∃ g', KeptOrWritten g g' ∧ o' = mapNext (State.disguise n g') o

section
variable (n : Nat) (g : Bool → Bool)

theorem disguised_next {t t' : State} (h : t' = t.disguise n g) : Disguised n g (.next t) (.next t') :=
  ⟨g, .inl rfl, congrArg Host.Outcome.next h⟩

theorem disguised_next_of_written {t t' : State} (h : t' = t.disguise n id) : Disguised n g (.next t) (.next t') :=
  ⟨id, .inr rfl, congrArg Host.Outcome.next h⟩

theorem disguised_unstable (cfg : Config) {t t' : State} (h : t' = t.disguise n g) :
    Disguised n g (unstable cfg t) (unstable cfg t') := by
  unfold unstable
  split
  · exact disguised_next n g h
  · exact ⟨g, .inl rfl, rfl⟩

/-- No instruction reads the count or the stored B.  PLP and RTI write B; PHP pushes P with B set; an unstable slot reads
nothing but its mode's pointer; every other meaning is a composition of operations that commute with the disguise. -/
theorem exec_disguise (i : Instr) (s : State) : Disguised n g (exec i s) (exec i (s.disguise n g)) := by
  cases i
  case plp => exact disguised_next_of_written n g (by rw [pull_disguise, setP_disguise_id])
  case rti => exact disguised_next_of_written n g (returnFromInterrupt_disguise n g s)
  case php => exact disguised_next n g (by rw [disguise_p, toByte_mapB_or_break, push_disguise])
  case ane | lxa => exact disguised_unstable n g s.cfg (skipByte_disguise n g s)
  case shaIndY k => exact disguised_unstable n g s.cfg (by rw [resolve_disguise])
  case shaAbsY nn | tas nn | shy nn | shx nn | las nn => exact disguised_unstable n g s.cfg rfl
  all_goals
    exact disguised_next n g (by
      simp [loadA, loadX, loadY, loadAX, storeA, storeX, storeY, storeAX, addWithCarry, subtractWithBorrow, andA, orA, eorA,
        compareA, compareX, compareY, bitTest, incrementMemory, decrementMemory, shiftLeft, shiftRight, rotateLeft,
        rotateRight, shiftLeftOr, rotateLeftAnd, shiftRightEor, rotateRightAdd, decrementCompare, incrementSubtract,
        nopAddressed, jam, sbxCore_breakBlind s.a s.x g _ s.p])

theorem cpuStep_disguise (s : State) : ∃ g', KeptOrWritten g g' ∧
    cpuStep (s.disguise n g) = mapNext (Prod.map (State.disguise n g') id) (cpuStep s) := by
  have hirq : irqTaken (s.disguise n g) = irqTaken s := rfl
  unfold cpuStep
  rw [disguise_jammed, hirq, disguise_cfg, interruptEntry_disguise, setPenalty_disguise, fetchInstr_disguise]
  cases s.jammed with
  | true => exact ⟨g, .inl rfl, rfl⟩
  | false =>
    cases irqTaken s with
    | true => exact ⟨g, .inl rfl, rfl⟩
    | false =>
      obtain ⟨g', hg, h⟩ := exec_disguise n g (fetchInstr (s.setPenalty 0)).1 (fetchInstr (s.setPenalty 0)).2
      refine ⟨g', hg, ?_⟩
      dsimp only
      rw [h]
      cases exec (fetchInstr (s.setPenalty 0)).1 (fetchInstr (s.setPenalty 0)).2 <;> rfl

theorem computerTick_disguise (c : Nat) (s : State) :
    computerTick c (s.disguise n g) = (computerTick c s).disguise n g := by
  simp [computerTick, State.disguise, Nat.add_right_comm]

theorem step_disguise (s : State) : Disguised n g (step s) (step (s.disguise n g)) := by
  obtain ⟨g', hg, h⟩ := cpuStep_disguise n g s
  refine ⟨g', hg, ?_⟩
  unfold step computerStep
  rw [h]
  cases cpuStep s with
  | next r => exact congrArg Host.Outcome.next (computerTick_disguise n g' r.2 r.1)
  | fault r => rfl
  | refused r => rfl

end

theorem withMoreTotal_eq_disguise (s : State) (n : Nat) : withMoreTotal s n = s.disguise n id := rfl

theorem withBreak_eq_disguise (s : State) (b : Bool) : withBreak s b = s.disguise 0 fun _ => b := rfl

/-- Settles O59: a larger count is a disguise that leaves B alone, and every step commutes with it. -/
theorem nothingReadsTheCycleCount : Obligations.NothingReadsTheCycleCount := by
  intro s n
  obtain ⟨g', rfl | rfl, h⟩ := step_disguise n id s
  all_goals exact ⟨fun t ht => by rw [withMoreTotal_eq_disguise, h, ht]; rfl,
    fun r hr => by rw [withMoreTotal_eq_disguise, h, hr]; rfl⟩

/-- Settles O60: another stored B is a disguise that leaves the count alone; after the step B is still that one, or both
runs have written the same B. -/
theorem nothingReadsTheStoredBreak : Obligations.NothingReadsTheStoredBreak := by
  intro s b
  obtain ⟨g', -, h⟩ := step_disguise 0 (fun _ => b) s
  exact ⟨fun t ht => ⟨g' t.p.b, by rw [withBreak_eq_disguise, h, ht]; rfl⟩,
    fun r hr => by rw [withBreak_eq_disguise, h, hr]; rfl⟩

end Sys2Proof.Machine

namespace Sys2Proof.Machine

open Sys2Proof.Claims

/-! ### P as a byte (spec 10_state R37) -/

theorem toByte_toNat (p : Status) : p.toByte.toNat = 128 * p.n.toNat + 64 * p.v.toNat + 32 + 16 * p.b.toNat +
    8 * p.d.toNat + 4 * p.i.toNat + 2 * p.z.toNat + p.c.toNat := by
  obtain ⟨n, v, b, d, i, z, c⟩ := p
  revert n v b d i z c
  decide

/-- A byte written to P reads back with bit 5 set (spec 10_state R27). -/
theorem toByte_ofByte : ∀ v : Byte, (Status.ofByte v).toByte = v ||| 0x20 := by decide +kernel

/-- Settles O50: the byte value is a fact of the seven flags, and `setFlags` is a write of P alone. -/
theorem statusAsByte : Obligations.StatusAsByte :=
  ⟨toByte_toNat, fun _ v => ⟨rfl, toByte_ofByte v⟩⟩

/-! ### The writers of the registers and flags -/

/-- Settles O52: a part that differs is one of the parts the instruction's meaning writes, and those are listed. -/
theorem registerAndFlagWriters : Obligations.RegisterAndFlagWriters := by
  intro i s t h
  obtain ⟨ws, hw, hc⟩ := exec_writesAsListed h
  refine ⟨?_, fun hv => hw _ (hc.v.resolve_right hv), fun hv => hw _ (hc.c.resolve_right hv),
    fun hv => hw _ (hc.d.resolve_right hv), fun hv => hw _ (hc.i.resolve_right hv),
    fun hv => hw _ (hc.b.resolve_right hv), fun hv => hw _ (hc.sp.resolve_right hv),
    fun hv => hw _ (hc.a.resolve_right hv), fun hv => hw _ (hc.x.resolve_right hv),
    fun hv => hw _ (hc.y.resolve_right hv)⟩
  rintro (hn | hz)
  · exact hw _ (hc.n.resolve_right hn)
  · exact hw _ (hc.z.resolve_right hz)

/-! ### PC after a straight-line instruction -/

theorem exec_currentOpcode {i : Instr} {s t : State} (h : exec i s = .next t) : t.currentOpcode = s.currentOpcode := by
  obtain ⟨_, _, hc⟩ := exec_writesAsListed h
  exact hc.currentOpcode

/-- Execution moves PC of itself only to pass over a byte, unless the instruction transfers control. -/
theorem exec_pc {i : Instr} {s t : State} (h : exec i s = .next t) (hp : i.opcode ∉ pcWriters) :
    t.pc = s.pc + BitVec.ofNat 16 (if i.opcode ∈ passOverOpcodes then 1 else 0) := by
  by_cases hskip : i.opcode ∈ passOverOpcodes
  · have ht := ran_of_passOver (exec_ran i s) hskip
    rw [h] at ht
    rw [if_pos hskip, show t = skipByte s from ht]
    rfl
  · obtain ⟨ws, hw, hc⟩ := exec_writesAsListed h
    have hws : Part.pc ∉ ws := fun hm => (List.mem_append.mp (hw _ hm)).elim hp hskip
    rw [if_neg hskip, hc.pc.resolve_left hws]
    exact (BitVec.add_zero _).symm

/-- A slot fetches all its bytes but the one its instruction passes over. -/
theorem slotOf_length : ∀ op : Byte, op ∉ pcWriters →
    (slotOf op).length = (slotOf op).fetched + if op ∈ passOverOpcodes then 1 else 0 := by decide +kernel

/-- Settles O7: the fetch moves PC past the bytes fetched and execution past a byte passed over; together they are the
instruction's length. -/
theorem straightLineAdvancesPc : Obligations.StraightLineAdvancesPc := by
  intro s t c hj hi h
  obtain ⟨hexec, -⟩ := exec_of_cpuStep hj hi h
  have hload : (load (s.setPenalty 0) s.pc).1 = (load s s.pc).1 := by rw [load_setPenalty]
  have henc := fetchInstr_encodes (s.setPenalty 0)
  rw [setPenalty_pc, hload] at henc
  refine ⟨?_, henc.opcode, fun hp => ?_⟩
  · rw [exec_currentOpcode hexec, fetchInstr_currentOpcode, setPenalty_pc, hload]
  · rw [exec_pc hexec hp, fetchInstr_pc, setPenalty_pc, hload, henc.length, henc.opcode,
      slotOf_length _ (henc.opcode ▸ hp), BitVec.ofNat_add, BitVec.add_assoc]

/-! ### JAM -/

/-- An instruction sets `jammed` exactly under a JAM opcode. -/
theorem exec_jammed {i : Instr} {s t : State} (h : exec i s = .next t) :
    t.jammed = (s.jammed || decide (i.opcode ∈ jamOpcodes)) := by
  by_cases hjam : i.opcode ∈ jamOpcodes
  · have ht := ran_of_jamOpcode (exec_ran i s) hjam
    rw [h] at ht
    cases ht
    simp [hjam]
  · obtain ⟨ws, hw, hc⟩ := exec_writesAsListed h
    rw [hc.jammed.resolve_left fun hm => hjam (hw _ hm)]
    simp [hjam]

/-- The step that jams the CPU ran a JAM opcode, and costs JAM_CYCLES (spec 40_addressing_modes R129). -/
theorem cost_of_jamming {s t : State} {c : Nat} (hj : s.jammed = false) (h : cpuStep s = .next (t, c))
    (ht : t.jammed = true) : c = s.cfg.jamCycles := by
  cases hi : irqTaken s with
  | true =>
    rw [cpuStep_of_irqTaken hj hi] at h
    cases h
    simp [hj] at ht
  | false =>
    obtain ⟨hexec, hc⟩ := exec_of_cpuStep hj hi h
    have hjam : (fetchInstr (s.setPenalty 0)).1.opcode ∈ jamOpcodes := by simpa [exec_jammed hexec, hj] using ht
    have hhalt := ran_of_jamOpcode (exec_ran _ (fetchInstr (s.setPenalty 0)).2) hjam
    rw [hexec] at hhalt
    cases hhalt
    rw [(fetchInstr_encodes _).opcode] at hjam
    rw [hc, halt_currentOpcode, fetchInstr_currentOpcode, nominalCycles, if_pos hjam]
    simp

/-- Each row of the JAM table is encoded as it says and only sets `jammed`. -/
theorem jamRows_complete (s : State) : EachCompletes jamRows s fun _ t => t = { s with jammed := true } := by
  intro r hr
  simp only [jamRows, List.mem_cons, List.not_mem_nil, or_false] at hr
  obtain rfl | rfl | rfl | rfl | rfl | rfl | rfl | rfl | rfl | rfl | rfl | rfl := hr
  all_goals exact ⟨⟨fun _ => rfl, rfl, rfl⟩, s.halt, rfl, rfl⟩

/-- Settles O9: `ran_of_jamOpcode` and the listed writers of `jammed` say what sets it, and a jammed step is the identity. -/
theorem jamIsTerminal : Obligations.JamIsTerminal := by
  refine ⟨jamRows_complete, fun s hj => ⟨cpuStep_of_jammed hj, ?_⟩, fun i s t h => exec_jammed h,
    fun s t c hj h ht => cost_of_jamming hj h ht, rfl, fun s b => interruptEntry_jammed b s, fun s => rfl,
    fun s v k o bytes level => ⟨rfl, rfl, rfl, rfl, rfl⟩⟩
  simp [step, computerStep, cpuStep_of_jammed hj]

end Sys2Proof.Machine

namespace Sys2Proof.Machine

/-! ### What a step changes of the machine -/

theorem fetchInstr_evolves (s : State) : s.Evolves (fetchInstr s).2 := by
  have hop : s.Evolves ((fetchByte s).2.setCurrentOpcode (fetchByte s).1) := by
    simpa using (State.Evolves.refl s).fetchByte
  unfold fetchInstr
  dsimp only
  split
  · exact hop
  · exact hop
  · exact hop.fetchByte
  · exact hop.fetchWord

/-- The CPU's part of a step is a jammed no-op, an IRQ entry, or a fetch and an execution. -/
theorem cpuStep_evolves {s t : State} {c : Nat} (h : cpuStep s = .next (t, c)) : s.Evolves t := by
  cases hj : s.jammed with
  | true =>
    rw [cpuStep_of_jammed hj] at h
    cases h
    exact .refl s
  | false =>
    cases hi : irqTaken s with
    | true =>
      rw [cpuStep_of_irqTaken hj hi] at h
      cases h
      exact (State.Evolves.refl s).interruptEntry false
    | false =>
      obtain ⟨hexec, -⟩ := exec_of_cpuStep hj hi h
      have hclear : s.Evolves (s.setPenalty 0) := by simpa using State.Evolves.refl s
      exact (hclear.trans (fetchInstr_evolves _)).trans (exec_evolves hexec)

/-- A step is the CPU's step, then the Computer's count and ticks (spec 60_exceptions R279). -/
theorem cpuStep_of_step {s t : State} (h : step s = .next t) :
    ∃ u c, cpuStep s = .next (u, c) ∧ t = computerTick c u := by
  unfold step computerStep at h
  split at h
  · rename_i r hr
    cases h
    exact ⟨r.1, r.2, hr, rfl⟩
  · cases h
  · cases h

/-- Every step lets the machine evolve, then counts and ticks. -/
theorem step_evolves {s t : State} (h : step s = .next t) : ∃ u c, s.Evolves u ∧ t = computerTick c u := by
  obtain ⟨u, c, hu, ht⟩ := cpuStep_of_step h
  exact ⟨u, c, cpuStep_evolves hu, ht⟩

@[simp] theorem tickAll_length (c : Nat) (rates : List Nat) (ps : List Peripheral) :
    (tickAll c rates ps).length = ps.length := by
  induction rates generalizing ps with
  | nil => rfl
  | cons rate rates ih =>
    cases ps with
    | nil => rfl
    | cons p ps => simp [tickAll, ih]

theorem State.Evolves.peripherals_length {s t : State} (h : s.Evolves t) :
    t.peripherals.length = s.peripherals.length := by
  simpa using congrArg List.length h.ticks

/-- The canonical form of every Memory survives, since each Memory of the later state is the evolved one of its number. -/
theorem State.Evolves.memoriesWf {s t : State} (h : s.Evolves t) (hw : s.memoriesWf = true) : t.memoriesWf = true := by
  refine List.all_eq_true.mpr fun m' hm' => ?_
  obtain ⟨k, hk, rfl⟩ := List.getElem_of_mem hm'
  have hks : k < s.memories.length := h.count ▸ hk
  obtain ⟨m'', hm'', he⟩ := h.memories k s.memories[k] (List.getElem?_eq_getElem hks)
  rw [List.getElem?_eq_getElem hk] at hm''
  cases hm''
  exact he.wf (List.all_eq_true.mp hw _ (List.getElem_mem hks))

theorem State.Evolves.wf {s t : State} (h : s.Evolves t) (hw : s.wf = true) : t.wf = true := by
  simp only [State.wf, Bool.and_eq_true] at hw ⊢
  obtain ⟨⟨hmem, hbus⟩, htargets⟩ := hw
  rw [h.cfg, h.count, h.peripherals_length]
  exact ⟨⟨h.memoriesWf hmem, hbus⟩, htargets⟩

/-- Counting and ticking touch nothing that well-formedness speaks of. -/
@[simp] theorem computerTick_wf (c : Nat) (s : State) : (computerTick c s).wf = s.wf := by
  simp [State.wf, State.memoriesWf, computerTick]

/-- Settles O56: a step lets the machine evolve, which keeps well-formedness, and then counts and ticks. -/
theorem stepKeepsWellFormedness : Obligations.StepKeepsWellFormedness := by
  intro s t hw h
  obtain ⟨u, c, he, rfl⟩ := step_evolves h
  rw [computerTick_wf]
  exact he.wf hw

theorem Memory.eq_of_fields {m m' : Memory} (hname : m.name = m'.name) (hcap : m.cap = m'.cap)
    (hreadOnly : m.readOnly = m'.readOnly) (hcells : m.cells = m'.cells) (hobs : m.observers = m'.observers) : m = m' := by
  cases m
  cases m'
  exact (Memory.mk.injEq ..).mpr ⟨hname, hcap, hreadOnly, hcells, hobs⟩

/-- A read-only Memory that evolves is the same Memory. -/
theorem Memory.Evolves.eq_of_readOnly {m m' : Memory} (h : m.Evolves m') (hr : m.readOnly = true) : m' = m :=
  Memory.eq_of_fields h.name h.cap h.readOnly (h.rom hr) h.observers

/-- Settles O58: what `State.Evolves` keeps, and a count that grows by the step's cycles. -/
theorem stepKeepsRomAndShape : Obligations.StepKeepsRomAndShape := by
  intro s t h
  obtain ⟨u, c, he, rfl⟩ := step_evolves h
  refine ⟨he.cfg, he.irq, he.total ▸ Nat.le_add_right u.total c, he.count,
    (tickAll_length _ _ _).trans he.peripherals_length, fun k m hm => ?_⟩
  obtain ⟨m', hm', hev⟩ := he.memories k m hm
  exact ⟨m', hm', hev.name, hev.cap, hev.readOnly, hev.observers, hev.eq_of_readOnly⟩

/-- Settles O57: one fixed state, evaluated. -/
theorem resetIsWellFormed : Obligations.ResetIsWellFormed := by
  unfold Obligations.ResetIsWellFormed
  decide

end Sys2Proof.Machine

namespace Sys2Proof.Machine

open Sys2Proof.Claims

/-! ### The Memory primitive (spec 20_memory R63) -/

/-- The first listed cell of a list in canonical form lies in range, holds a byte that is listed, and bounds the rest. -/
theorem cellsWf_cons {cap lo k : Nat} {v : Byte} {rest : List Host.Cell} :
    cellsWf cap lo ((k, v) :: rest) = true ↔
      lo ≤ k ∧ k < cap ∧ v ≠ unlistedByte ∧ cellsWf cap (k + 1) rest = true := by
  simp [cellsWf, and_assoc]

/-- Of two lists in canonical form that read alike, neither starts before the other: the other would read as unlisted there. -/
theorem not_lt_of_cellsGet_eq {cap lo k k' : Nat} {v v' : Byte} {rest rest' : List Host.Cell}
    (h : cellsWf cap lo ((k, v) :: rest) = true) (h' : cellsWf cap lo ((k', v') :: rest') = true)
    (hget : ∀ i, i < cap → cellsGet ((k, v) :: rest) i = cellsGet ((k', v') :: rest') i) : ¬ k < k' := by
  intro hlt
  obtain ⟨-, hk, hv, -⟩ := cellsWf_cons.mp h
  obtain ⟨-, hk', hv', hrest'⟩ := cellsWf_cons.mp h'
  have hbelow : cellsWf cap k' ((k', v') :: rest') = true := cellsWf_cons.mpr ⟨le_rfl, hk', hv', hrest'⟩
  have hat := hget k hk
  rw [cellsGet_below cap k' _ hbelow k hlt] at hat
  exact hv (by simpa [cellsGet] using hat)

/-- The canonical form is canonical: the bytes determine the list. -/
theorem cells_eq_of_cellsGet_eq {cap lo : Nat} {l l' : List Host.Cell} (h : cellsWf cap lo l = true)
    (h' : cellsWf cap lo l' = true) (hget : ∀ i, i < cap → cellsGet l i = cellsGet l' i) : l = l' := by
  induction l generalizing lo l' with
  | nil =>
    cases l' with
    | nil => rfl
    | cons c' rest' =>
      obtain ⟨k', v'⟩ := c'
      obtain ⟨-, hk', hv', -⟩ := cellsWf_cons.mp h'
      exact absurd (by simpa [cellsGet] using (hget k' hk').symm) hv'
  | cons c rest ih =>
    obtain ⟨k, v⟩ := c
    obtain ⟨-, hk, hv, hrest⟩ := cellsWf_cons.mp h
    cases l' with
    | nil => exact absurd (by simpa [cellsGet] using hget k hk) hv
    | cons c' rest' =>
      obtain ⟨k', v'⟩ := c'
      obtain rfl : k = k' := le_antisymm (not_lt.mp (not_lt_of_cellsGet_eq h' h fun i hi => (hget i hi).symm))
        (not_lt.mp (not_lt_of_cellsGet_eq h h' hget))
      obtain rfl : v = v' := by simpa [cellsGet] using hget k hk
      obtain ⟨-, -, -, hrest'⟩ := cellsWf_cons.mp h'
      refine congrArg _ (ih hrest hrest' fun i hi => ?_)
      by_cases hik : k = i
      · subst hik
        rw [cellsGet_below cap (k + 1) rest hrest k (Nat.lt_succ_self k),
          cellsGet_below cap (k + 1) rest' hrest' k (Nat.lt_succ_self k)]
      · simpa [cellsGet, hik] using hget i hi

theorem Memory.load_index (m : Memory) (i : Nat) : m.load (m.index i) = m.load i := by
  simp [Memory.load]

theorem Memory.load_eq_cellsGet {m : Memory} {i : Nat} (hi : i < m.cap) : m.load i = cellsGet m.cells i := by
  rw [Memory.load, Memory.index, Nat.mod_eq_of_lt hi]

theorem Memory.load_put {m : Memory} (h : m.wf = true) (i j : Nat) (v : Byte) :
    (m.put i v).load j = if j % m.cap = i % m.cap then v else m.load j := by
  split
  · exact Memory.load_put_same h i j v ‹_›
  · exact Memory.load_put_other m i j v ‹_›

/-- Settles O44: read after write at the index modulo the capacity, and the canonical form determined by the bytes. -/
theorem memoryPrimitive : Obligations.MemoryPrimitive := by
  refine ⟨fun m i j v h => ⟨(m.load_index i).symm, Memory.put_wf h i v, rfl, rfl, rfl, rfl, Memory.load_put h i j v⟩, ?_⟩
  intro m m' h h' hname hcap hreadOnly hobs hload
  refine Memory.eq_of_fields hname hcap hreadOnly ?_ hobs
  refine cells_eq_of_cellsGet_eq (Memory.wf_cells h) (hcap ▸ Memory.wf_cells h') fun i hi => ?_
  rw [← Memory.load_eq_cellsGet hi, ← Memory.load_eq_cellsGet (hcap ▸ hi)]
  exact hload i hi

/-! ### What a store leaves to be read (spec 20_memory R54 to R58, R75) -/

theorem writableAt_cases {s : State} {addr : Word} (h : writableAt s addr = true) :
    ∃ k m off, route s addr = .cell k m off ∧ m.readOnly = false ∧ m.wf = true := by
  unfold writableAt at h
  split at h
  · rename_i k m off hr
    exact ⟨k, m, off, hr, by simpa using h⟩
  · cases h
  · cases h

/-- A byte stored to writable memory is loaded back at every address of its cell, without a side effect. -/
theorem load_store_alias {s : State} {a b : Word} {v : Byte} (ha : writableAt s a = true)
    (hb : cellOf s b = cellOf s a) : load (store s a v) b = (v, store s a v) := by
  obtain ⟨k, m, off, hr, hro, hwf⟩ := writableAt_cases ha
  exact load_of_peek (peek_store_same hr hro hwf v hb)

/-- Settles O45: a load and a fetch find the byte at an alias, and `peek_store_other` leaves every other address alone. -/
theorem storeIsSeenAtEveryAlias : Obligations.StoreIsSeenAtEveryAlias := by
  refine fun s a b v ha => ⟨load_store_alias ha, fun hpc => ?_, peek_store_other s a b v⟩
  rw [fetchByte_value, store_pc, load_store_alias ha hpc]

theorem store_of_discardsAt {s : State} {addr : Word} (h : discardsAt s addr = true) (v : Byte) : store s addr v = s := by
  unfold discardsAt at h
  split at h
  · rename_i k m off hr
    exact store_readOnly hr h v
  · cases h
  · rename_i hr
    exact store_unmapped hr v

theorem load_unmapped {s : State} {addr : Word} (h : route s addr = .unmapped) :
    load s addr = (s.cfg.fallbackByte, s) := by
  simp [load, h]

/-! ### Word reads (spec 20_memory R56, R64) -/

theorem add_one_eq_ofNat (a : Word) : a + 1 = BitVec.ofNat 16 ((a.toNat + 1) % 65536) := by
  bv_omega

/-- A mask of the low `k` lines keeps the remainder modulo `2 ^ k`. -/
theorem toNat_and_lowLines (w mask : Word) (k : Nat) (h : mask.toNat = 2 ^ k - 1) :
    (w &&& mask).toNat = w.toNat % 2 ^ k := by
  rw [BitVec.toNat_and, h, Nat.and_two_pow_sub_one_eq_mod]

theorem mkWord_toNat (hi lo : Byte) : (mkWord hi lo).toNat = lo.toNat + 256 * hi.toNat := by
  rw [mkWord, BitVec.toNat_append, ← Nat.shiftLeft_add_eq_or_of_lt lo.isLt, Nat.shiftLeft_eq]
  omega

/-- The high eight lines of a word are its page, in place. -/
theorem toNat_and_page (a : Word) : (a &&& 0xFF00).toNat = (a.toNat / 256) <<< 8 := by
  have hpage : a &&& (0xFF00 : Word) = (a >>> 8) <<< 8 := by
    ext i hi
    interval_cases i <;> simp
  have hlt := a.isLt
  rw [hpage, BitVec.toNat_shiftLeft, BitVec.toNat_ushiftRight, Nat.shiftRight_eq_div_pow, Nat.shiftLeft_eq]
  omega

/-- The page of one address and the offset of another in its page, combined by their lines. -/
theorem toNat_page_or_offset (a b : Word) :
    ((a &&& 0xFF00) ||| (b &&& 0x00FF)).toNat = 256 * (a.toNat / 256) + b.toNat % 256 := by
  have hoffset : (b &&& 0x00FF).toNat = b.toNat % 256 := toNat_and_lowLines b _ 8 rfl
  rw [BitVec.toNat_or, toNat_and_page, hoffset,
    ← Nat.shiftLeft_add_eq_or_of_lt (Nat.mod_lt _ (by decide)), Nat.shiftLeft_eq, Nat.mul_comm]

/-- The index of the high byte in a page-wrapped word read. -/
theorem wrappedNext_toNat (a : Word) : ((a &&& 0xFF00) ||| ((a + 1) &&& 0x00FF)).toNat =
    if a.toNat % 256 = 255 then a.toNat - 255 else a.toNat + 1 := by
  have hlt := a.isLt
  have hnext : (a + 1).toNat = (a.toNat + 1) % 65536 := BitVec.toNat_add a 1
  rw [toNat_page_or_offset, hnext]
  split_ifs <;> omega

/-- Settles O47: both reads give a word of two bytes, and the high byte's address is the next one in its range. -/
theorem wordReads : Obligations.WordReads := by
  refine ⟨fun s addr => ?_, fun m a => ?_⟩
  · rw [← add_one_eq_ofNat]
    exact ⟨mkWord_toNat _ _, rfl⟩
  · rw [Memory.loadWordWrapped, mkWord_toNat, wrappedNext_toNat]

/-! ### The peripheral boundary (spec 20_memory R62) -/

@[simp] theorem recordAccess_length (ps : List Peripheral) (k : Nat) (acc : PeriphAccess) :
    (recordAccess ps k acc).length = ps.length := List.length_modify ..

theorem recordAccess_same {ps : List Peripheral} {k : Nat} {p : Peripheral} (h : ps[k]? = some p) (acc : PeriphAccess) :
    (recordAccess ps k acc)[k]? = some ⟨p.ticks, acc :: p.accesses⟩ := by
  simp [recordAccess, h]

theorem recordAccess_other (ps : List Peripheral) {j k : Nat} (h : j ≠ k) (acc : PeriphAccess) :
    (recordAccess ps k acc)[j]? = ps[j]? := by
  simp [recordAccess, Ne.symm h]

theorem load_state_of_not_device {s : State} {addr : Word} (h : ∀ k r w, route s addr ≠ .device k r w) :
    (load s addr).2 = s := by
  cases hr : route s addr with
  | cell k m off => simp [load, hr]
  | device k r w => exact absurd hr (h k r w)
  | unmapped => simp [load, hr]

/-- Settles O48: an access to a peripheral register adds to that peripheral's record, and nothing else of the record
changes. -/
theorem peripheralBoundary : Obligations.PeripheralBoundary :=
  ⟨fun _ _ _ _ _ v _ hr hp =>
    ⟨⟨_, load_device hr, recordAccess_length _ _ _, recordAccess_same hp _, fun _ hj => recordAccess_other _ hj _⟩,
      ⟨_, store_device hr v, recordAccess_length _ _ _, recordAccess_same hp _, fun _ hj => recordAccess_other _ hj _⟩⟩,
    fun _ _ h => load_state_of_not_device h⟩

/-! ### Write-observers (spec 20_memory R65) -/

/-- What `registerObserver` does to the Memory it names. -/
def Memory.register (o : Nat) (m : Memory) : Memory := { m with observers := m.observers ++ [o] }

/-- What `removeObserver` does to the Memory it names (spec 60_exceptions R284). -/
def Memory.unregister (o : Nat) (m : Memory) : Memory := { m with observers := m.observers.filter (· != o) }

/-- The route with the Memory it reaches replaced by `f` of it, if that is Memory number `k`. -/
def Route.mapMemory (k : Nat) (f : Memory → Memory) : Route → Route
  | .cell k' m off => if k' = k then .cell k' (f m) off else .cell k' m off
  | .device k' r w => .device k' r w
  | .unmapped => .unmapped

/-- What changing Memory number `k` in place does to a route. -/
theorem route_modify {s t : State} {k : Nat} {f : Memory → Memory} (hm : t.memories = s.memories.modify k f)
    (hc : t.cfg = s.cfg) (addr : Word) : route t addr = (route s addr).mapMemory k f := by
  unfold route
  rw [hm, hc]
  dsimp only
  cases Config.rangeOf s.cfg (addr &&& s.cfg.addrMask) with
  | none => rfl
  | some r =>
    obtain ⟨lines, value, target⟩ := r
    cases target with
    | fallback => rfl
    | peripheral k' base readMask writeMask => rfl
    | memory k' base mask =>
      dsimp only
      rw [List.getElem?_modify]
      cases s.memories[k']? with
      | none => rfl
      | some m =>
        by_cases hkk : k' = k
        · simp [Route.mapMemory, hkk]
        · simp [Route.mapMemory, hkk, Ne.symm hkk]

/-- A change in place that keeps every byte of a Memory is seen by no read. -/
theorem peek_modify {s t : State} {k : Nat} {f : Memory → Memory} (hm : t.memories = s.memories.modify k f)
    (hc : t.cfg = s.cfg) (hf : ∀ m i, (f m).load i = m.load i) (addr : Word) : peek t addr = peek s addr := by
  unfold peek
  rw [route_modify hm hc, hc]
  cases route s addr with
  | cell k' m off => by_cases hkk : k' = k <;> simp [Route.mapMemory, hkk, hf]
  | device k' r w => rfl
  | unmapped => rfl

theorem registerObserver_memories (s : State) (k o : Nat) :
    (registerObserver s k o).memories = s.memories.modify k (Memory.register o) := rfl

theorem removeObserver_memories (s : State) (k o : Nat) :
    (removeObserver s k o).memories = s.memories.modify k (Memory.unregister o) := rfl

theorem route_registerObserver {s : State} {addr : Word} {k : Nat} {m : Memory} {off : Nat}
    (h : route s addr = .cell k m off) (o : Nat) : route (registerObserver s k o) addr = .cell k (m.register o) off := by
  rw [route_modify (registerObserver_memories s k o) rfl, h]
  exact if_pos rfl

/-- A store to writable memory tells its observers, newest first in the log. -/
theorem store_cell_notifications {s : State} {addr : Word} {k : Nat} {m : Memory} {off : Nat}
    (h : route s addr = .cell k m off) (hw : m.readOnly = false) (v : Byte) :
    (store s addr v).notifications = notices k m off v ++ s.notifications := by
  rw [store_cell h hw]

/-- An observer registered after the others is told after them, of the same cell and value. -/
theorem notices_register (k : Nat) (m : Memory) (o off : Nat) (v : Byte) :
    notices k (m.register o) off v = ⟨k, o, off % m.cap, v⟩ :: notices k m off v := by
  simp [notices, Memory.register, Memory.index]

/-- One more observer of the Memory a store reaches is told after all the others. -/
theorem store_registerObserver_notifications {s : State} {addr : Word} {k : Nat} {m : Memory} {off : Nat}
    (h : route s addr = .cell k m off) (hw : m.readOnly = false) (o : Nat) (v : Byte) :
    (store (registerObserver s k o) addr v).notifications =
      ⟨k, o, off % m.cap, v⟩ :: (store s addr v).notifications := by
  rw [store_cell_notifications (route_registerObserver h o) hw, store_cell_notifications h hw, notices_register]
  rfl

theorem store_notifications_of_untold {s : State} {addr : Word}
    (h : ∀ k m off, route s addr = .cell k m off → m.readOnly = true ∨ m.observers = []) (v : Byte) :
    (store s addr v).notifications = s.notifications := by
  cases hr : route s addr with
  | unmapped => rw [store_unmapped hr]
  | device k r w => rw [store_device hr]
  | cell k m off =>
    cases hw : m.readOnly with
    | true => rw [store_readOnly hr hw]
    | false =>
      have hobs : m.observers = [] := (h k m off hr).resolve_left (by simp [hw])
      simp [store_cell_notifications hr hw, notices, hobs]

/-- Settles O49: two registrations, one after the other; and no registration or removal writes a cell. -/
theorem observersAreToldInOrder : Obligations.ObserversAreToldInOrder := by
  refine ⟨fun s addr k o1 o2 off m v h hw => ?_, fun s addr k o => ⟨?_, ?_, rfl, rfl⟩,
    fun s addr v h => store_notifications_of_untold h v⟩
  · rw [store_registerObserver_notifications (route_registerObserver h o1) hw, store_registerObserver_notifications h hw]
    rfl
  · exact peek_modify (registerObserver_memories s k o) rfl (fun _ _ => rfl) addr
  · exact peek_modify (removeObserver_memories s k o) rfl (fun _ _ => rfl) addr

end Sys2Proof.Machine

namespace Sys2Proof.Machine

open Sys2Proof.Claims

/-! ### The console's decode (spec 20_memory R52, R60) -/

/-- An address line as a digit of the address. -/
theorem getLsbD_eq_digit (w : Word) (k : Nat) : w.getLsbD k = decide (w.toNat / 2 ^ k % 2 = 1) :=
  Nat.testBit_eq_decide_div_mod_eq

/-- The console's ranges subtract no base (spec 20_memory R60), so a local offset is a remainder. -/
theorem toNat_localOffset (w mask : Word) (k : Nat) (h : mask.toNat = 2 ^ k - 1) :
    ((w - 0x0000) &&& mask).toNat = w.toNat % 2 ^ k := by
  rw [show w - 0x0000 = w from BitVec.sub_zero w, toNat_and_lowLines w mask k h]

/-- The range that holds a masked address of the console is found by its lines 12, 7 and 9. -/
theorem find_consoleMap (w : Word) :
    consoleMap.find? (fun r => r.covers w) = some (
      if w.getLsbD 12 then ⟨0x1000, 0x1000, .memory 0 0x0000 0x0FFF⟩
      else if w.getLsbD 7 = false then ⟨0x1080, 0x0000, .peripheral 0 0x0000 0x000F 0x003F⟩
      else if w.getLsbD 9 = false then ⟨0x1280, 0x0080, .memory 1 0x0000 0x007F⟩
      else ⟨0x1280, 0x0280, .peripheral 1 0x0000 0x007F 0x007F⟩) := by
  have h12 : w &&& 0x1000 = if w.getLsbD 12 then 0x1000 else 0 := BitVec.and_twoPow w 12
  have h7 : w &&& 0x0080 = if w.getLsbD 7 then 0x0080 else 0 := BitVec.and_twoPow w 7
  have h9 : w &&& 0x0200 = if w.getLsbD 9 then 0x0200 else 0 := BitVec.and_twoPow w 9
  have h127 : w &&& 0x1080 = (w &&& 0x1000) ||| (w &&& 0x0080) := by rw [← BitVec.and_or_distrib_left]; rfl
  have h1279 : w &&& 0x1280 = (w &&& 0x1080) ||| (w &&& 0x0200) := by rw [← BitVec.and_or_distrib_left]; rfl
  simp only [consoleMap, BusRange.covers, List.find?, h1279, h127, h12, h7, h9]
  cases w.getLsbD 12 with
  | true => rfl
  | false =>
    cases w.getLsbD 7 with
    | false => rfl
    | true => cases w.getLsbD 9 <;> rfl

/-- The console's map by value. -/
theorem route_console {s : State} {rom ram : Memory} (h : OnConsole s rom ram) (addr : Word) :
    route s addr =
      if 4096 ≤ addr.toNat % 8192 then .cell 0 rom (addr.toNat % 8192 % 4096)
      else if addr.toNat % 8192 / 128 % 2 = 0 then .device 0 (addr.toNat % 8192 % 16) (addr.toNat % 8192 % 64)
      else if addr.toNat % 8192 / 512 % 2 = 0 then .cell 1 ram (addr.toNat % 8192 % 128)
      else .device 1 (addr.toNat % 8192 % 128) (addr.toNat % 8192 % 128) := by
  obtain ⟨hmask, hmap, hmem⟩ := h
  have hw : (addr &&& 0x1FFF).toNat = addr.toNat % 8192 := toNat_and_lowLines addr _ 13 rfl
  have hlt : addr.toNat % 8192 < 8192 := Nat.mod_lt _ (by decide)
  unfold route Config.rangeOf
  rw [hmask, hmap, hmem]
  dsimp only
  rw [find_consoleMap]
  generalize addr &&& 0x1FFF = w at hw
  rw [← hw] at hlt ⊢
  have h12 : w.getLsbD 12 = true ↔ 4096 ≤ w.toNat := by
    rw [getLsbD_eq_digit, decide_eq_true_eq]
    omega
  have h7 : w.getLsbD 7 = false ↔ w.toNat / 128 % 2 = 0 := by
    rw [getLsbD_eq_digit, decide_eq_false_iff_not]
    omega
  have h9 : w.getLsbD 9 = false ↔ w.toNat / 512 % 2 = 0 := by
    rw [getLsbD_eq_digit, decide_eq_false_iff_not]
    omega
  simp only [h12, h7, h9]
  split_ifs
  · exact congrArg (Route.cell 0 rom) (toNat_localOffset w _ 12 rfl)
  · exact congrArg₂ (Route.device 0) (toNat_localOffset w _ 4 rfl) (toNat_localOffset w _ 6 rfl)
  · exact congrArg (Route.cell 1 ram) (toNat_localOffset w _ 7 rfl)
  · exact congrArg₂ (Route.device 1) (toNat_localOffset w _ 7 rfl) (toNat_localOffset w _ 7 rfl)

/-- Settles O42: `route_console`, and the reset state by its definition. -/
theorem consoleDecode : Obligations.ConsoleDecode :=
  ⟨fun _ _ _ addr h => route_console h addr, ⟨rfl, rfl, rfl⟩, rfl, rfl, rfl, rfl⟩

/-- Settles O46: the two discarding routes of a store, and no clause of the console's map is the fallback range. -/
theorem discardedStores : Obligations.DiscardedStores := by
  refine ⟨fun s addr v h => store_of_discardsAt h v, fun s addr h => load_unmapped h, rfl, fun s rom ram addr h => ?_⟩
  rw [route_console h]
  split_ifs <;> nofun

/-! ### The stack on the console (spec 42_stack R160) -/

theorem stackAddr_toNat (sp : Byte) : (stackAddr sp).toNat = 256 + sp.toNat := by
  rw [stackAddr, mkWord_toNat, Nat.add_comm]
  rfl

/-- With S below 0x80 the stack byte is a register of the video chip. -/
theorem route_stackAddr_device {s : State} {rom ram : Memory} (h : OnConsole s rom ram) {sp : Byte}
    (hsp : sp.toNat < 128) : route s (stackAddr sp) = .device 0 (sp.toNat % 16) (sp.toNat % 64) := by
  have ha : (stackAddr sp).toNat % 8192 = 256 + sp.toNat := by rw [stackAddr_toNat]; omega
  rw [route_console h, ha, if_neg (by omega), if_pos (by omega)]
  congr 1 <;> omega

/-- With S of at least 0x80 the stack byte is a cell of the RAM. -/
theorem route_stackAddr_ram {s : State} {rom ram : Memory} (h : OnConsole s rom ram) {sp : Byte}
    (hsp : 128 ≤ sp.toNat) : route s (stackAddr sp) = .cell 1 ram (sp.toNat % 128) := by
  have hlt := sp.isLt
  have ha : (stackAddr sp).toNat % 8192 = 256 + sp.toNat := by rw [stackAddr_toNat]; omega
  rw [route_console h, ha, if_neg (by omega), if_neg (by omega), if_pos (by omega)]
  congr 1
  omega

/-- The upper half of page 0 is the RAM. -/
theorem route_zeroPage_ram {s : State} {rom ram : Memory} (h : OnConsole s rom ram) {i : Nat} (hi : i < 128) :
    route s (BitVec.ofNat 16 (128 + i)) = .cell 1 ram i := by
  have ha : (BitVec.ofNat 16 (128 + i)).toNat % 8192 = 128 + i := by
    rw [BitVec.toNat_ofNat]
    omega
  rw [route_console h, ha, if_neg (by omega), if_neg (by omega), if_pos (by omega)]
  congr 1
  omega

/-- Settles O43: the pushed byte lies in the cell of a zero-page address, or in no Memory. -/
theorem consoleStackIsZeroPage : Obligations.ConsoleStackIsZeroPage := by
  refine fun s rom ram v h hcap hro hwf => ⟨fun hsp => ?_, fun hsp => ?_⟩
  · have hstack := route_stackAddr_ram h hsp
    have hzero := route_zeroPage_ram h (Nat.mod_lt s.sp.toNat (by decide : 0 < 128))
    rw [push, peek_setSp]
    exact peek_store_same hstack hro hwf v (by simp [cellOf, hstack, hzero])
  · simp [push, store_device (route_stackAddr_device h hsp)]

end Sys2Proof.Machine

namespace Sys2Proof.Laws.EncodedForm

/-- The encoded form of every instruction: one lemma per constructor, in the constructors' order. -/
theorem encodedForm : ∀ i : Instr, Statement i :=
  Instr.rec
    ldaIndX ldaZp ldaImm ldaAbs ldaIndY ldaZpX ldaAbsY ldaAbsX ldxImm ldxZp ldxAbs ldxZpY ldxAbsY ldyImm ldyZp
    ldyAbs ldyZpX ldyAbsX staIndX staZp staAbs staIndY staZpX staAbsY staAbsX stxZp stxAbs stxZpY styZp styAbs
    styZpX tax tay txa tya tsx txs pha php pla plp adcIndX adcZp adcImm adcAbs adcIndY adcZpX adcAbsY adcAbsX
    sbcIndX sbcZp sbcImm sbcAbs sbcIndY sbcZpX sbcAbsY sbcAbsX andIndX andZp andImm andAbs andIndY andZpX andAbsY
    andAbsX oraIndX oraZp oraImm oraAbs oraIndY oraZpX oraAbsY oraAbsX eorIndX eorZp eorImm eorAbs eorIndY eorZpX
    eorAbsY eorAbsX cmpIndX cmpZp cmpImm cmpAbs cmpIndY cmpZpX cmpAbsY cmpAbsX cpxImm cpxZp cpxAbs cpyImm cpyZp
    cpyAbs bitZp bitAbs incZp incAbs incZpX incAbsX decZp decAbs decZpX decAbsX inx iny dex dey aslZp aslAcc
    aslAbs aslZpX aslAbsX lsrZp lsrAcc lsrAbs lsrZpX lsrAbsX rolZp rolAcc rolAbs rolZpX rolAbsX rorZp rorAcc
    rorAbs rorZpX rorAbsX jmpAbs jmpInd jsr rts bpl bmi bvc bvs bcc bcs bne beq brk rti clc sec cli sei cld sed
    clv nop sloIndX sloZp sloAbs sloIndY sloZpX sloAbsY sloAbsX rlaIndX rlaZp rlaAbs rlaIndY rlaZpX rlaAbsY
    rlaAbsX sreIndX sreZp sreAbs sreIndY sreZpX sreAbsY sreAbsX rraIndX rraZp rraAbs rraIndY rraZpX rraAbsY
    rraAbsX dcpIndX dcpZp dcpAbs dcpIndY dcpZpX dcpAbsY dcpAbsX iscIndX iscZp iscAbs iscIndY iscZpX iscAbsY
    iscAbsX saxIndX saxZp saxAbs saxZpY laxIndX laxZp laxAbs laxIndY laxZpY laxAbsY anc0B anc2B alr arr sbx usbc
    shaIndY shaAbsY tas shy shx las ane lxa nop04 nop0C nop14 nop1C nop34 nop3C nop44 nop54 nop5C nop64 nop74
    nop7C nopD4 nopDC nopF4 nopFC nop1A nop3A nop5A nop7A nop80 nop82 nop89 nopC2 nopDA nopE2 nopFA jam02 jam12
    jam22 jam32 jam42 jam52 jam62 jam72 jam92 jamB2 jamD2 jamF2

end Sys2Proof.Laws.EncodedForm

namespace Sys2Proof

/-- The instruction of a slot, once the two bytes after the opcode are known (spec 30_encoding R93). -/
def Slot.instr (b1 b2 : Byte) : Slot → Instr
  | .bare i => i
  | .skip i => i
  | .byte f => f b1
  | .word f => f (mkWord b2 b1)

/-- Different operands of the slot make different instructions. -/
def Slot.KeepsOperand : Slot → Prop
  | .bare _ => True
  | .skip _ => True
  | .byte f => Function.Injective f
  | .word f => Function.Injective f

theorem Slot.length_bounds (slot : Slot) : 1 ≤ slot.length ∧ slot.length ≤ 3 := by
  cases slot <;> simp [Slot.length]

end Sys2Proof

namespace Sys2Proof.Machine

open Sys2Proof.Laws.EncodedForm

/-! ### The byte order of an operand16 (spec 30_encoding R93) -/

@[simp] theorem loByte_toNat (w : Word) : (loByte w).toNat = w.toNat % 256 := BitVec.toNat_setWidth 8 w

@[simp] theorem hiByte_toNat (w : Word) : (hiByte w).toNat = w.toNat / 256 := by
  rw [hiByte, BitVec.toNat_setWidth, BitVec.toNat_ushiftRight, Nat.shiftRight_eq_div_pow]
  omega

@[simp] theorem mkWord_hiByte_loByte (w : Word) : mkWord (hiByte w) (loByte w) = w := by
  apply BitVec.eq_of_toNat_eq
  rw [mkWord_toNat, loByte_toNat, hiByte_toNat, Nat.mod_add_div]

@[simp] theorem wordBytes_mkWord (hi lo : Byte) : wordBytes (mkWord hi lo) = [lo, hi] := by
  have hlo : loByte (mkWord hi lo) = lo := by
    apply BitVec.eq_of_toNat_eq
    rw [loByte_toNat, mkWord_toNat]
    omega
  have hhi : hiByte (mkWord hi lo) = hi := by
    apply BitVec.eq_of_toNat_eq
    rw [hiByte_toNat, mkWord_toNat]
    omega
  rw [wordBytes, hlo, hhi]

/-! ### Decoding -/

/-- Operand bytes that the opcode's slot accepts decode to their instruction, and nothing after them is touched. -/
theorem decode_of_accepts {op : Byte} {i : Instr} {operands : List Byte} (h : Accepts (slotOf op) i operands)
    (rest : List Byte) : decode (op :: operands ++ rest) = .ok (i, rest) := by
  unfold decode
  dsimp only [List.cons_append]
  generalize slotOf op = slot at h ⊢
  cases slot with
  | bare j =>
    obtain ⟨rfl, rfl⟩ := h
    rfl
  | skip j =>
    obtain ⟨rfl, rfl⟩ := h
    rfl
  | byte f =>
    obtain ⟨b, rfl, rfl⟩ := h
    rfl
  | word f =>
    obtain ⟨w, rfl, rfl⟩ := h
    simp [wordBytes]

/-- Settles O1: the encoded form of each instruction is what the opcode's slot accepts. -/
theorem decodeOfEncode : Obligations.DecodeOfEncode := by
  intro i rest _
  obtain ⟨op, operands, hencode, haccepts⟩ := encodedForm i
  rw [hencode]
  exact decode_of_accepts haccepts rest

/-! ### The decoder is total (spec 30_encoding R94) -/

/-- The opcode map, row by row: constructors of `Instr` are injective. -/
theorem opcodeMap_keepsOperand : ∀ slot ∈ opcodeMap, slot.KeepsOperand := by
  simp only [opcodeMap, List.forall_mem_append]
  and_intros
  all_goals
    simp [Slot.KeepsOperand, Function.Injective, opcodeRow0, opcodeRow1, opcodeRow2, opcodeRow3, opcodeRow4, opcodeRow5,
      opcodeRow6, opcodeRow7, opcodeRow8, opcodeRow9, opcodeRowA, opcodeRowB, opcodeRowC, opcodeRowD, opcodeRowE,
      opcodeRowF]

theorem slotOf_keepsOperand (op : Byte) : (slotOf op).KeepsOperand :=
  opcodeMap_keepsOperand _ (List.getElem_mem _)

/-- An instruction of opcode `op` is encoded as `op` and operand bytes that the slot of `op` accepts. -/
theorem encode_of_opcode {i : Instr} {op : Byte} (h : i.opcode = op) :
    ∃ operands, encode i = op :: operands ∧ Accepts (slotOf op) i operands := by
  obtain ⟨op', operands, hencode, haccepts⟩ := encodedForm i
  have hop : op' = op := by simpa [Instr.opcode, hencode] using h
  subst hop
  exact ⟨operands, hencode, haccepts⟩

/-- Three bytes decode to their slot's instruction, and the slot's length is consumed. -/
theorem decode_eq_instr (op b1 b2 : Byte) (rest : List Byte) :
    decode (op :: b1 :: b2 :: rest) =
      .ok ((slotOf op).instr b1 b2, (op :: b1 :: b2 :: rest).drop (slotOf op).length) := by
  unfold decode
  dsimp only
  cases slotOf op <;> rfl

theorem slotInstr_encodes (op b1 b2 : Byte) : Encodes ((slotOf op).instr b1 b2) op (slotOf op).length := by
  have h := slotOf_fits op
  generalize slotOf op = slot at h ⊢
  cases slot with
  | bare i => exact h
  | skip i => exact h
  | byte f => exact h b1
  | word f => exact h (mkWord b2 b1)

/-- Where the core fetches every byte of an instruction, its encoding is those bytes: the slot's operand is the operand
encoded, because the slot keeps it. -/
theorem encode_slotInstr {op : Byte} (b1 b2 : Byte) (rest : List Byte)
    (hfetch : (slotOf op).fetched = (slotOf op).length) :
    encode ((slotOf op).instr b1 b2) = (op :: b1 :: b2 :: rest).take (slotOf op).length := by
  obtain ⟨operands, hencode, haccepts⟩ := encode_of_opcode (slotInstr_encodes op b1 b2).opcode
  have hkeeps := slotOf_keepsOperand op
  rw [hencode]
  generalize slotOf op = slot at hfetch haccepts hkeeps ⊢
  cases slot with
  | bare i =>
    obtain ⟨-, rfl⟩ := haccepts
    rfl
  | skip i => cases hfetch
  | byte f =>
    obtain ⟨b, hb, rfl⟩ := haccepts
    rw [hkeeps hb]
    rfl
  | word f =>
    obtain ⟨w, hw, rfl⟩ := haccepts
    rw [hkeeps hw, wordBytes_mkWord]
    rfl

/-- Settles O2: the opcode's slot answers an instruction that has that opcode and the slot's length. -/
theorem decoderIsTotal : Obligations.DecoderIsTotal := by
  intro op b1 b2 rest
  obtain ⟨hopcode, hlength⟩ := slotInstr_encodes op b1 b2
  obtain ⟨hlow, hhigh⟩ := (slotOf op).length_bounds
  refine ⟨(slotOf op).instr b1 b2, ?_⟩
  rw [hlength]
  exact ⟨decode_eq_instr op b1 b2 rest, rfl, hlow, hhigh, hopcode, encode_slotInstr b1 b2 rest⟩

/-- Settles O3: each opcode byte written out has the slot of its instruction, and the operand bytes are assembled low byte
first. -/
theorem opcodeWordsDecode : Obligations.OpcodeWordsDecode := by
  and_intros
  all_goals rfl

end Sys2Proof.Machine

namespace Sys2Proof.Machine

open Sys2Proof.Claims

/-! ### Addresses and pages by value -/

@[simp] theorem zext_toNat (b : Byte) : (zext b).toNat = b.toNat :=
  BitVec.toNat_setWidth_of_le (by decide)

theorem zext_eq_ofNat (b : Byte) : zext b = BitVec.ofNat 16 b.toNat :=
  (BitVec.ofNat_toNat 16 b).symm

theorem zext_add_eq_ofNat (b c : Byte) : zext (b + c) = BitVec.ofNat 16 ((b.toNat + c.toNat) % 256) := by
  rw [zext_eq_ofNat, BitVec.toNat_add]

theorem mkWord_eq_ofNat (hi lo : Byte) : mkWord hi lo = BitVec.ofNat 16 (256 * hi.toNat + lo.toNat) := by
  apply BitVec.eq_of_toNat_eq
  rw [mkWord_toNat, BitVec.toNat_ofNat]
  omega

/-- Indexing adds the register modulo 65536 (spec 40_addressing_modes R120). -/
theorem add_zext_toNat (base : Word) (index : Byte) :
    (base + zext index).toNat = (base.toNat + index.toNat) % 65536 := by
  rw [BitVec.toNat_add, zext_toNat]

theorem ofNat_add_zext (k : Nat) (index : Byte) :
    BitVec.ofNat 16 k + zext index = BitVec.ofNat 16 ((k + index.toNat) % 65536) := by
  apply BitVec.eq_of_toNat_eq
  rw [add_zext_toNat, BitVec.toNat_ofNat, BitVec.toNat_ofNat, Nat.mod_add_mod, Nat.mod_mod]

/-- Two addresses lie in different pages exactly when their high bytes differ (spec 40_addressing_modes R120). -/
theorem pageDiffers_eq (a b : Word) : pageDiffers a b = decide (pageOf a ≠ pageOf b) := by
  have h : (a &&& 0xFF00 : Word) = b &&& 0xFF00 ↔ pageOf a = pageOf b := by
    rw [← BitVec.toNat_inj, toNat_and_page, toNat_and_page, Nat.shiftLeft_eq, Nat.shiftLeft_eq]
    exact Nat.mul_left_inj (by decide)
  rw [pageDiffers, bne, Bool.beq_eq_decide_eq, ← decide_not]
  simp only [h, ne_eq]

/-! ### The addressing modes (spec 40_addressing_modes R116 to R123) -/

theorem indexed_crossed (base : Word) (index : Byte) (s : State) :
    (indexed base index s).crossed = true ↔ pageOf base ≠ pageOf (indexed base index s).ea := by
  simp [indexed, pageDiffers_eq]

/-- Settles O39: each direct mode by its definition, its sum taken as a natural number. -/
theorem directModes : Obligations.DirectModes := by
  intro s n nn
  refine ⟨?_, ?_, zext_toNat n, ?_, ?_, rfl, add_zext_toNat nn s.x, add_zext_toNat nn s.y,
    indexed_crossed nn s.x s, indexed_crossed nn s.y s⟩
  · simp [resolve]
  · simp [resolve]
  · exact (zext_toNat _).trans (BitVec.toNat_add n s.x)
  · exact (zext_toNat _).trans (BitVec.toNat_add n s.y)

/-- A zero-page pointer by value: both bytes lie in page 0, the low one first (spec 40_addressing_modes R122, R123). -/
theorem zeroPagePointer_eq (s : State) (z : Byte) :
    zeroPagePointer s z =
      (BitVec.ofNat 16 (256 * (load (load s (BitVec.ofNat 16 z.toNat)).2 (BitVec.ofNat 16 ((z.toNat + 1) % 256))).1.toNat +
          (load s (BitVec.ofNat 16 z.toNat)).1.toNat),
        (load (load s (BitVec.ofNat 16 z.toNat)).2 (BitVec.ofNat 16 ((z.toNat + 1) % 256))).2) := by
  rw [zeroPagePointer, zext_add_eq_ofNat, zext_eq_ofNat, mkWord_eq_ofNat]
  rfl

/-- Settles O40: both modes read the zero-page pointer; (zero-page),Y then indexes the word read. -/
theorem pointerModes : Obligations.PointerModes := by
  refine fun s n => ⟨?_, ?_⟩
  · simp only [resolve, zeroPagePointer_eq, BitVec.toNat_add, Nat.mod_add_mod]
  · simp only [resolve, zeroPagePointer_eq, indexed, pageDiffers_eq, load_y, ofNat_add_zext]

/-! ### The operand primitives (spec 40_addressing_modes R126, R130) -/

theorem chargeCross_resolve (m : AddrMode) (s : State) :
    chargeCross (resolve m s) = (resolve m s).state.setPenalty (s.penalty + crossCost (.memory m) s) := by
  rw [chargeCross, crossCost, ← resolve_penalty m s]
  split <;> rfl

/-- Settles O41: a charge and a write of P commute with the access after them. -/
theorem operandPrimitives : Obligations.OperandPrimitives := by
  refine ⟨fun _ _ => rfl, fun s m => ?_, fun s m f => ?_, fun _ _ => rfl⟩
  · rw [readOperand, chargeCross_resolve, load_setPenalty]
    rfl
  · simp only [modifyOperand, store_setP, load_p, resolve_p]
    rfl

/-! ### SetNZ (spec 40_addressing_modes R131) -/

/-- Settles O51: Z and N by value; the other flags are not written. -/
theorem setNZ : Obligations.SetNZ := by
  refine fun p v => ⟨?_, ?_, rfl, rfl, rfl, rfl, rfl, rfl⟩
  · rw [Status.setNZ_z, beq_iff_eq, ← BitVec.toNat_inj]
    rfl
  · rw [Status.setNZ_n, ← BitVec.msb_eq_getLsbD_last, BitVec.msb_eq_decide, decide_eq_true_eq]

end Sys2Proof.Machine

namespace Sys2Proof

theorem Slot.fetched_pos (slot : Slot) : 0 < slot.fetched := by
  cases slot <;> simp [Slot.fetched]

end Sys2Proof

namespace Sys2Proof.Machine

open Sys2Proof.Claims

/-! ### Branches (spec 40_addressing_modes R125, R128, 45_control R214) -/

theorem relativeTarget_eq_ofInt (d : Byte) (s : State) :
    relativeTarget d s = BitVec.ofInt 16 (s.pc.toNat + d.toInt) := by
  rw [relativeTarget, BitVec.ofInt_add, BitVec.ofInt_natCast, BitVec.ofNat_toNat, BitVec.setWidth_eq]
  rfl

/-- What a branch does, by value. -/
theorem branch_eq (cond : Bool) (d : Byte) (s : State) :
    branch cond d s =
      if cond then
        { s with pc := relativeTarget d s,
                 penalty := s.penalty + if pageOf s.pc = pageOf (relativeTarget d s) then 1 else 2 }
      else s := by
  cases cond with
  | false => rfl
  | true =>
    by_cases hpage : pageOf s.pc = pageOf (relativeTarget d s)
    · simp [branch, pageDiffers_eq, hpage, State.charge, State.setPc]
    · simp [branch, pageDiffers_eq, hpage, State.charge, State.setPc]

/-- Each row of the branch table is encoded as it says and branches on its condition. -/
theorem branchRows_branch (s : State) (d : Byte) :
    EachCompletes (branchRows d) s fun cond t => t = branch (cond s.p) d s := by
  intro r hr
  simp only [branchRows, List.mem_cons, List.not_mem_nil, or_false] at hr
  obtain rfl | rfl | rfl | rfl | rfl | rfl | rfl | rfl := hr
  all_goals exact ⟨⟨fun _ => rfl, rfl, rfl⟩, _, rfl, rfl⟩

/-- Settles O31: every row branches on its condition, to the target taken by value. -/
theorem branchInstructions : Obligations.BranchInstructions := by
  intro s d
  have h := branchRows_branch s d
  simp only [branch_eq, relativeTarget_eq_ofInt] at h
  exact h

/-! ### The penalty of an instruction (spec 40_addressing_modes R126 to R129) -/

theorem crossCost_le (src : Source) (s : State) : crossCost src s ≤ 1 := by
  cases src with
  | immediate n => exact Nat.zero_le 1
  | memory m =>
    unfold crossCost
    dsimp only
    split <;> decide

theorem decimalCost_le (p : Status) : decimalCost p ≤ 1 := by
  unfold decimalCost
  split <;> decide

theorem readOperand_penalty_eq (src : Source) (s : State) :
    (readOperand src s).2.penalty = s.penalty + crossCost src s := by
  cases src with
  | immediate n => rfl
  | memory m => exact readOperand_penalty m s

theorem readOperand_penalty_le (src : Source) (s : State) : (readOperand src s).2.penalty ≤ s.penalty + 1 := by
  rw [readOperand_penalty_eq]
  exact Nat.add_le_add_left (crossCost_le src s) _

theorem add_penalty_le (s : State) (m : Byte) : (s.add m).penalty ≤ s.penalty + 1 := by
  rw [add_penalty]
  exact Nat.add_le_add_left (decimalCost_le s.p) _

theorem sub_penalty_le (s : State) (m : Byte) : (s.sub m).penalty ≤ s.penalty + 1 := by
  rw [sub_penalty]
  exact Nat.add_le_add_left (decimalCost_le s.p) _

theorem nopAddressed_penalty_le (m : AddrMode) (s : State) : (nopAddressed m s).penalty ≤ s.penalty + 1 := by
  rw [nopAddressed, chargeCross_penalty, resolve_penalty]
  exact Nat.add_le_add_left (crossCost_le (.memory m) s) _

theorem branch_penalty_le (cond : Bool) (d : Byte) (s : State) : (branch cond d s).penalty ≤ s.penalty + 2 := by
  rw [branch_eq]
  split_ifs <;> simp

/-- An instruction charges at most two cycles: an operand's page cross and a decimal correction are one each, a taken
branch is one or two, and nothing else charges. -/
theorem ran_penalty_le {op : Byte} {s : State} {o : Host.Outcome State Fault Refusal} (r : Ran op s o) :
    OnNext (fun t => t.penalty ≤ s.penalty + 2) o := by
  cases r
  case loadA src h | loadX src h | loadY src h | loadAX src h | andA src h | orA src h | eorA src h | compareA src h |
      compareX src h | compareY src h | bitTest src h =>
    exact (readOperand_penalty_le src s).trans (Nat.le_succ _)
  case addWithCarry src h =>
    exact (add_penalty_le _ _).trans (Nat.succ_le_succ (readOperand_penalty_le src s))
  case subtractWithBorrow src h =>
    exact (sub_penalty_le _ _).trans (Nat.succ_le_succ (readOperand_penalty_le src s))
  case rotateRightAdd m h =>
    exact ((add_penalty_le _ _).trans_eq (by rw [modifyOperand_penalty])).trans (Nat.le_succ _)
  case incrementSubtract m h =>
    exact ((sub_penalty_le _ _).trans_eq (by rw [modifyOperand_penalty])).trans (Nat.le_succ _)
  case usbc n h => exact (sub_penalty_le s n).trans (Nat.le_succ _)
  case nopAddressed m h => exact (nopAddressed_penalty_le m s).trans (Nat.le_succ _)
  case bpl d h | bmi d h | bvc d h | bvs d h | bcc d h | bcs d h | bne d h | beq d h => exact branch_penalty_le _ d s
  case unstable m h => exact onNext_unstable (by simp) s.cfg
  case unstableImmediate h => exact onNext_unstable (by simp [skipByte]) s.cfg
  all_goals
    simp [OnNext, storeA, storeX, storeY, storeAX, shiftLeftOr, rotateLeftAnd, shiftRightEor, decrementCompare,
      incrementMemory, decrementMemory, shiftLeft, shiftRight, rotateLeft, rotateRight, skipByte, jam, immediateCore]

theorem exec_penalty_le {i : Instr} {s t : State} (h : exec i s = .next t) : t.penalty ≤ s.penalty + 2 := by
  have hr := ran_penalty_le (exec_ran i s)
  rwa [h] at hr

theorem baseCycles_bounds : ∀ op : Byte, 2 ≤ baseCycles op ∧ baseCycles op ≤ 8 := by decide +kernel

/-- Settles O6: the penalty is cleared before the fetch and grows by at most two. -/
theorem stepCostIsBounded : Obligations.StepCostIsBounded := by
  refine ⟨fun s t c h => ⟨fun hj => ?_, fun hj hi => ?_, fun hj hi => ?_⟩, baseCycles_bounds⟩
  · rw [cpuStep_of_jammed hj] at h
    cases h
    rfl
  · rw [cpuStep_of_irqTaken hj hi] at h
    cases h
    rfl
  · obtain ⟨hexec, rfl⟩ := exec_of_cpuStep hj hi h
    have hpenalty : t.penalty ≤ 2 := by simpa using exec_penalty_le hexec
    rw [(cpuStep_evolves h).cfg]
    omega

/-! ### The fetch of readable bytes (spec 40_addressing_modes R110 to R112) -/

theorem fetchByte_of_peek {s : State} {w : Word} {v : Byte} (hpc : s.pc = w) (h : peek s w = some v) :
    fetchByte s = (v, s.setPc (w + 1)) := by
  rw [fetchByte, hpc, load_of_peek h]

theorem fetchWord_of_peek {s : State} {w : Word} {lo hi : Byte} (hpc : s.pc = w) (hlo : peek s w = some lo)
    (hhi : peek s (w + 1) = some hi) : fetchWord s = (mkWord hi lo, s.setPc (w + 2)) := by
  rw [fetchWord, fetchByte_of_peek hpc hlo, fetchByte_of_peek (setPc_pc s (w + 1)) hhi, pc_add_two, setPc_setPc]

/-- Bytes that decode to `i` and stand at PC are fetched as `i`; a byte the slot passes over is not asked for. -/
theorem fetchInstr_of_decode {s : State} {bs rest : List Byte} {i : Instr} (hdecode : decode bs = .ok (i, rest))
    (hbytes : ∀ k, k < (slotOf (bs.headD 0)).fetched → peek s (s.pc + BitVec.ofNat 16 k) = bs[k]?) :
    fetchInstr s =
      (i, (s.setPc (s.pc + BitVec.ofNat 16 (slotOf (bs.headD 0)).fetched)).setCurrentOpcode (bs.headD 0)) := by
  cases bs with
  | nil => cases hdecode
  | cons op tail =>
    have hop : peek s s.pc = some op := by simpa using hbytes 0 (slotOf op).fetched_pos
    unfold fetchInstr
    rw [fetchByte_of_peek rfl hop]
    unfold decode at hdecode
    dsimp only [List.headD_cons] at hdecode hbytes ⊢
    have hpc : ((s.setPc (s.pc + 1)).setCurrentOpcode op).pc = s.pc + 1 := rfl
    generalize slotOf op = slot at hdecode hbytes ⊢
    cases slot with
    | bare j =>
      cases hdecode
      rfl
    | skip j =>
      cases hdecode
      rfl
    | byte f =>
      cases tail with
      | nil => cases hdecode
      | cons b tail' =>
        cases hdecode
        have hb : peek s (s.pc + 1) = some b := hbytes 1 Nat.one_lt_two
        dsimp only
        rw [fetchByte_of_peek hpc hb, pc_add_two]
        rfl
    | word f =>
      obtain _ | ⟨lo, _ | ⟨hi, tail'⟩⟩ := tail
      · cases hdecode
      · cases hdecode
      · cases hdecode
        have hlo : peek s (s.pc + 1) = some lo := hbytes 1 (show 1 < 3 by decide)
        have hhi : peek s (s.pc + 2) = some hi := hbytes 2 (show 2 < 3 by decide)
        dsimp only
        rw [fetchWord_of_peek hpc hlo (by rwa [pc_add_two]), show s.pc + 1 + 2 = s.pc + 3 by bv_omega]
        rfl

/-! ### The step of a fetched instruction (spec 40_addressing_modes R110, 60_exceptions R279) -/

theorem step_of_cpuStep {s t : State} {c : Nat} (h : cpuStep s = .next (t, c)) : step s = .next (computerTick c t) := by
  rw [step, computerStep, h]

theorem step_of_cpuStep_refused {s : State} {r : Refusal} (h : cpuStep s = .refused r) : step s = .refused r := by
  rw [step, computerStep, h]

section
variable {s u : State} {i : Instr} (hj : s.jammed = false) (hi : irqTaken s = false)
  (hfetch : fetchInstr (s.setPenalty 0) = (i, u))
include hj hi hfetch

/-- The CPU's step costs the fetched opcode's nominal cost and the penalty the execution leaves. -/
theorem cpuStep_of_exec {t : State} (h : exec i u = .next t) :
    cpuStep s = .next (t, nominalCycles s.cfg u.currentOpcode + t.penalty) := by
  have hcfg : t.cfg = s.cfg := by
    rw [(exec_evolves h).cfg, show u = (fetchInstr (s.setPenalty 0)).2 by rw [hfetch], fetchInstr_cfg, setPenalty_cfg]
  rw [← exec_currentOpcode h, ← hcfg]
  simp [cpuStep, hj, hi, hfetch, h]

theorem cpuStep_of_exec_refused {r : Refusal} (h : exec i u = .refused r) : cpuStep s = .refused r := by
  simp [cpuStep, hj, hi, hfetch, h]

end

/-- Settles O4: the bytes at PC are fetched as the instruction they decode to, and the step runs it. -/
theorem stepRunsTheDecodedInstruction : Obligations.StepRunsTheDecodedInstruction := by
  intro s bs rest i _ hdecode hbytes hj hi op u
  have hfetch : fetchInstr (s.setPenalty 0) = (i, u) := fetchInstr_of_decode hdecode hbytes
  refine ⟨fun t ht => ?_, fun r hr => step_of_cpuStep_refused (cpuStep_of_exec_refused hj hi hfetch hr)⟩
  have hcpu := cpuStep_of_exec hj hi hfetch ht
  exact ⟨hcpu, step_of_cpuStep hcpu⟩

end Sys2Proof.Machine

namespace Sys2Proof.Machine

open Sys2Proof.Claims

/-! ### Rows of the opcode tables -/

/-- An instruction is encoded by its own bytes, at its own opcode's base cost. -/
theorem encoded_of_encode {i : Instr} {bytes : List Byte} {cycles : Nat} (hbytes : encode i = bytes)
    (hcycles : baseCycles i.opcode = cycles) : Encoded i bytes cycles := by
  subst hbytes hcycles
  exact ⟨fun rest => decodeOfEncode i rest rfl, rfl, rfl⟩

/-- The row is encoded as it says and runs the meaning `f` in its mode. -/
structure RowRuns {Mode : Type} (f : Mode → State → State) (r : Row Mode) : Prop where
  encoded : Encoded r.instr r.bytes r.cycles
  exec : ∀ s, exec r.instr s = .next (f r.mode s)

/-- What a meaning answers in every mode, each row that runs it answers. -/
theorem eachCompletes_of_rowRuns {Mode : Type} {rows : List (Row Mode)} {f : Mode → State → State} {s : State}
    {P : Mode → State → Prop} (hrows : ∀ r ∈ rows, RowRuns f r) (hf : ∀ mode, P mode (f mode s)) :
    EachCompletes rows s P :=
  fun r hr => ⟨(hrows r hr).encoded, f r.mode s, (hrows r hr).exec s, hf r.mode⟩

/-! ### SetNZ by value (spec 40_addressing_modes R131) -/

theorem Status.setNZ_eq_flagsNZ (p : Status) (v : Byte) : p.setNZ v = flagsNZ p v := by
  obtain ⟨hz, hn, -⟩ := Machine.setNZ p v
  simp only [flagsNZ, ← hz, ← hn, Bool.decide_eq_true]
  rfl

theorem State.setNZ_eq_flagsNZ (s : State) (v : Byte) : s.setNZ v = { s with p := flagsNZ s.p v } := by
  rw [← Status.setNZ_eq_flagsNZ]
  rfl

/-! ### Transfers (spec 41_load_store_transfer R146 to R151) -/

/-- Settles O12: each transfer is one register write, and all but TXS set N and Z by value. -/
theorem transferInstructions : Obligations.TransferInstructions := by
  intro s
  refine ⟨⟨encoded_of_encode rfl rfl, ?_⟩, ⟨encoded_of_encode rfl rfl, ?_⟩, ⟨encoded_of_encode rfl rfl, ?_⟩,
    ⟨encoded_of_encode rfl rfl, ?_⟩, ⟨encoded_of_encode rfl rfl, ?_⟩, ⟨encoded_of_encode rfl rfl, rfl⟩⟩
  · exact congrArg Host.Outcome.next (State.setNZ_eq_flagsNZ (s.setX s.a) s.a)
  · exact congrArg Host.Outcome.next (State.setNZ_eq_flagsNZ (s.setY s.a) s.a)
  · exact congrArg Host.Outcome.next (State.setNZ_eq_flagsNZ (s.setA s.x) s.x)
  · exact congrArg Host.Outcome.next (State.setNZ_eq_flagsNZ (s.setA s.y) s.y)
  · exact congrArg Host.Outcome.next (State.setNZ_eq_flagsNZ (s.setX s.sp) s.sp)

/-! ### The frame of a read operand -/

/-- Memories, notices and parameters as they were: nothing was stored. -/
theorem noStore_of_memories {s t : State} (hmemories : t.memories = s.memories)
    (hnotifications : t.notifications = s.notifications) (hcfg : t.cfg = s.cfg) : NoStore s t :=
  ⟨peek_congr hmemories hcfg, hmemories, hnotifications⟩

theorem readOperand_readsOnly (src : Source) (s : State) :
    ReadsOnly src s (readOperand src s).2 (crossCost src s) where
  hidden := by constructor <;> simp
  bus := ⟨noStore_of_memories (by simp) (by simp) (by simp), rfl, rfl⟩
  penalty := readOperand_penalty_eq src s

/-- The frame of a read operand says nothing of the registers and the flags. -/
theorem readsOnly_withRegisters {src : Source} {s t : State} {cost : Nat} (h : ReadsOnly src s t cost)
    (a x y sp : Byte) (pc : Word) (p : Status) :
    ReadsOnly src s { t with a := a, x := x, y := y, sp := sp, pc := pc, p := p } cost := by
  obtain ⟨hhidden, ⟨hstore, hperipherals, hdraws⟩, hpenalty⟩ := h
  obtain ⟨hjammed, hopcode, htotal, hirq, hcfg⟩ := hhidden
  exact ⟨⟨hjammed, hopcode, htotal, hirq, hcfg⟩,
    ⟨noStore_of_memories hstore.memories hstore.notifications hcfg, hperipherals, hdraws⟩, hpenalty⟩

/-! ### Loads (spec 41_load_store_transfer R140 to R142, 47_illegal R245) -/

theorem loadRows_run (n : Byte) (nn : Word) :
    (∀ r ∈ ldaRows n nn, RowRuns loadA r) ∧ (∀ r ∈ ldxRows n nn, RowRuns loadX r) ∧
      (∀ r ∈ ldyRows n nn, RowRuns loadY r) ∧ ∀ r ∈ laxRows n nn, RowRuns loadAX r := by
  simp only [ldaRows, ldxRows, ldyRows, laxRows, List.forall_mem_cons, List.not_mem_nil, false_imp_iff, implies_true,
    and_true]
  and_intros
  all_goals exact ⟨encoded_of_encode rfl rfl, fun _ => rfl⟩

/-- Rows load when their meaning puts the operand where `regs` says, sets N and Z by it, and otherwise only reads. -/
theorem loadsInto_of_rowRuns {rows : List (Row Source)} {f : Source → State → State} {s : State}
    {regs : State → Byte → Prop} (hrows : ∀ r ∈ rows, RowRuns f r)
    (hregs : ∀ src, regs (f src s) (readOperand src s).1)
    (hp : ∀ src, (f src s).p = s.p.setNZ (readOperand src s).1)
    (hreads : ∀ src, ReadsOnly src s (f src s) (crossCost src s)) : LoadsInto rows s regs :=
  eachCompletes_of_rowRuns hrows fun src => ⟨hregs src, (hp src).trans (Status.setNZ_eq_flagsNZ _ _), hreads src⟩

/-- Settles O10: each load is one read of its operand and then register and flag writes. -/
theorem loadInstructions : Obligations.LoadInstructions := by
  intro s n nn
  obtain ⟨hlda, hldx, hldy, hlax⟩ := loadRows_run n nn
  have hreads (src : Source) := readsOnly_withRegisters (readOperand_readsOnly src s)
  exact ⟨loadsInto_of_rowRuns hlda (fun src => by constructor <;> simp [loadA]) (fun src => by simp [loadA])
      fun src => hreads src _ _ _ _ _ _,
    loadsInto_of_rowRuns hldx (fun src => by constructor <;> simp [loadX]) (fun src => by simp [loadX])
      fun src => hreads src _ _ _ _ _ _,
    loadsInto_of_rowRuns hldy (fun src => by constructor <;> simp [loadY]) (fun src => by simp [loadY])
      fun src => hreads src _ _ _ _ _ _,
    loadsInto_of_rowRuns hlax (fun src => by constructor <;> simp [loadAX]) (fun src => by simp [loadAX])
      fun src => hreads src _ _ _ _ _ _⟩

/-! ### Stores (spec 41_load_store_transfer R143 to R145, 47_illegal R244) -/

theorem storeRows_run (n : Byte) (nn : Word) :
    (∀ r ∈ staRows n nn, RowRuns storeA r) ∧ (∀ r ∈ stxRows n nn, RowRuns storeX r) ∧
      (∀ r ∈ styRows n nn, RowRuns storeY r) ∧ ∀ r ∈ saxRows n nn, RowRuns storeAX r := by
  simp only [staRows, stxRows, styRows, saxRows, List.forall_mem_cons, List.not_mem_nil, false_imp_iff, implies_true,
    and_true]
  and_intros
  all_goals exact ⟨encoded_of_encode rfl rfl, fun _ => rfl⟩

/-- A store to no device is not seen by the peripherals. -/
theorem store_peripherals_of_not_device {s : State} {addr : Word} (h : ∀ k r w, route s addr ≠ .device k r w) (v : Byte) :
    (store s addr v).peripherals = s.peripherals := by
  cases hr : route s addr with
  | cell k m off =>
    cases hw : m.readOnly with
    | true => rw [store_readOnly hr hw]
    | false => rw [store_cell hr hw]
  | device k r w => exact absurd hr (h k r w)
  | unmapped => rw [store_unmapped hr]

/-- A store to a state that reached its Bus from `s` by reads alone is one byte stored since `s`. -/
theorem store_storesByte {s u : State} (hmemories : u.memories = s.memories)
    (hnotifications : u.notifications = s.notifications) (hcfg : u.cfg = s.cfg) (ea : Word) (v : Byte) :
    StoresByte s u (store u ea v) ea v := by
  have hroute : route u = route s := funext (route_congr hmemories hcfg)
  have hcell : cellOf u = cellOf s := funext (cellOf_congr hmemories hcfg)
  constructor
  case written =>
    intro hwritable addr haddr
    obtain ⟨k, m, off, hr, hro, hwf⟩ := writableAt_cases hwritable
    rw [← hroute] at hr
    rw [← hcell] at haddr
    exact peek_store_same hr hro hwf v haddr
  case cell =>
    intro k m off hr hro
    rw [← hroute] at hr
    rw [store_cell hr hro, ← hmemories, ← hnotifications]
    exact ⟨rfl, rfl⟩
  case discarded =>
    intro hdiscards
    have hdiscards' : discardsAt u ea = true := by rwa [discardsAt, hroute]
    rw [store_of_discardsAt hdiscards']
    exact ⟨noStore_of_memories hmemories hnotifications hcfg, rfl⟩
  case outside =>
    intro addr houtside
    rw [OutsideCell, ← hcell] at houtside
    exact (peek_store_other u ea addr v houtside).trans (peek_congr hmemories hcfg addr)
  case device =>
    intro k r w hr
    rw [← hroute] at hr
    rw [store_device hr]
    exact ⟨noStore_of_memories hmemories hnotifications hcfg, rfl⟩
  case memory =>
    intro hdevice
    rw [← hroute] at hdevice
    exact store_peripherals_of_not_device hdevice v
  case draws => exact store_draws u ea v

theorem writeOperand_storesByte (m : AddrMode) (v : Byte) (s : State) :
    StoresByte s (resolve m s).state (writeOperand m v s) (resolve m s).ea v :=
  store_storesByte (resolve_memories m s) (resolve_notifications m s) (resolve_cfg m s) _ v

/-- Rows store `v` when their meaning writes it as their operand. -/
theorem storesValue_of_rowRuns {rows : List (Row AddrMode)} {f : AddrMode → State → State} {s : State} {v : Byte}
    (hrows : ∀ r ∈ rows, RowRuns f r) (hf : ∀ m, f m s = writeOperand m v s) : StoresValue rows s v := by
  refine eachCompletes_of_rowRuns hrows fun m => ?_
  rw [hf m]
  exact ⟨by constructor <;> simp, writeOperand_p m v s, by constructor <;> simp, writeOperand_penalty m v s,
    writeOperand_storesByte m v s⟩

/-- Settles O11: each store writes its register as the operand, after the reads of its mode alone. -/
theorem storeInstructions : Obligations.StoreInstructions := by
  intro s n nn
  obtain ⟨hsta, hstx, hsty, hsax⟩ := storeRows_run n nn
  exact ⟨storesValue_of_rowRuns hsta fun _ => rfl, storesValue_of_rowRuns hstx fun _ => rfl,
    storesValue_of_rowRuns hsty fun _ => rfl, storesValue_of_rowRuns hsax fun _ => rfl⟩

end Sys2Proof.Machine

namespace Sys2Proof.Machine

open Sys2Proof.Claims

/-! ### The stack operations (spec 42_stack R160, R161) -/

/-- A push stores one byte where S points, and nothing else goes to the Bus. -/
theorem push_storesByte (s : State) (v : Byte) : StoresByte s s (push s v) (stackAddr s.sp) v := by
  have hpush : push s v = store (s.setSp (s.sp - 1)) (stackAddr s.sp) v := (store_setSp s _ _ v).symm
  obtain ⟨hwritten, hcell, hdiscarded, houtside, hdevice, hmemory, hdraws⟩ :=
    store_storesByte (u := s.setSp (s.sp - 1)) (setSp_memories s _) (setSp_notifications s _) (setSp_cfg s _)
      (stackAddr s.sp) v
  rw [hpush]
  exact ⟨hwritten, hcell, hdiscarded, houtside, hdevice, hmemory, hdraws⟩

/-- A push stores its byte and decrements S; no flag, other register or hidden item changes. -/
theorem push_effect (s : State) (v : Byte) :
    StoresByte s s (push s v) (stackAddr s.sp) v ∧ HiddenKept s (push s v) ∧ (push s v).p = s.p ∧
      (push s v).penalty = s.penalty ∧ RegsAre (push s v) s.a s.x s.y (s.sp - 1) s.pc :=
  ⟨push_storesByte s v, by constructor <;> simp, push_p s v, push_penalty s v, by constructor <;> simp⟩

/-- A pull is a load from the state before it, beside the increment of S. -/
theorem pull_eq_load (s : State) : pull s =
    ((load s (stackAddr (s.sp + 1))).1, (load s (stackAddr (s.sp + 1))).2.setSp (s.sp + 1)) :=
  load_setSp s (s.sp + 1) (stackAddr (s.sp + 1))

theorem pull_value (s : State) : (pull s).1 = (load s (stackAddr (s.sp + 1))).1 := by
  rw [pull_eq_load]

theorem pull_peripherals (s : State) : (pull s).2.peripherals = (load s (stackAddr (s.sp + 1))).2.peripherals := by
  rw [pull_eq_load, setSp_peripherals]

theorem pull_draws (s : State) : (pull s).2.draws = (load s (stackAddr (s.sp + 1))).2.draws := by
  rw [pull_eq_load, setSp_draws]

/-- Where the stack byte is writable memory, a pull finds the byte pushed and takes S back. -/
theorem pull_push {s : State} (h : stackReady1 s = true) (v : Byte) :
    pull (push s v) = (v, (push s v).setSp s.sp) := by
  have hload : load (push s v) (stackAddr s.sp) = (v, push s v) := by
    rw [push, load_setSp, load_store_alias h rfl]
  rw [pull_eq_load, push_sp, BitVec.sub_add_cancel, hload]

/-- Settles O13: a push and a pull are one store and one load at the stack address, which the round trip makes the same. -/
theorem pushAndPull : Obligations.PushAndPull :=
  ⟨stackAddr_toNat, push_effect, fun _ => rfl, fun _ v h => pull_push h v⟩

/-! ### The stack instructions (spec 42_stack R162 to R165) -/

/-- A table of one row, from that row. -/
theorem eachCompletes_singleton {Mode : Type} {r : Row Mode} {s t : State} {P : Mode → State → Prop}
    (hencoded : Encoded r.instr r.bytes r.cycles) (hexec : exec r.instr s = .next t) (ht : P r.mode t) :
    EachCompletes [r] s P :=
  List.forall_mem_singleton.mpr ⟨hencoded, t, hexec, ht⟩

/-- Settles O14: PHA and PHP are each one push. -/
theorem pushInstructions : Obligations.PushInstructions := fun s =>
  ⟨eachCompletes_singleton (encoded_of_encode rfl rfl) rfl (push_effect s _),
    eachCompletes_singleton (encoded_of_encode rfl rfl) rfl (push_effect s _)⟩

/-- The masks of PLP and RTI clear bit 4 alone of the stored flags (spec 42_stack R165). -/
theorem ofPulled_eq_pulledFlags (v : Byte) : Status.ofPulled v = pulledFlags v := by
  simp [Status.ofPulled, Status.ofByte, pulledFlags]

/-- Writing A and the flags after a pull keeps the frame of the pull: one read at the stack address. -/
theorem pull_frame (s : State) (a : Byte) (p : Status) :
    HiddenKept s (((pull s).2.setA a).setP p) ∧ (((pull s).2.setA a).setP p).penalty = s.penalty ∧
      OnlyRead s (load s (stackAddr (s.sp + 1))).2 (((pull s).2.setA a).setP p) :=
  ⟨by constructor <;> simp, pull_penalty s,
    noStore_of_memories (pull_memories s) (pull_notifications s) (pull_cfg s), pull_peripherals s, pull_draws s⟩

/-- Settles O15: PLA and PLP are each one pull, whose byte goes to A and by value to N and Z, or to P. -/
theorem pullInstructions : Obligations.PullInstructions := by
  intro s
  refine ⟨eachCompletes_singleton (encoded_of_encode rfl rfl) rfl ⟨?_, ?_, pull_frame s _ _⟩,
    eachCompletes_singleton (encoded_of_encode rfl rfl) rfl ⟨?_, ?_, pull_frame s (pull s).2.a _⟩⟩
  · constructor <;> simp [pull_value]
  · simp [pull_value, Status.setNZ_eq_flagsNZ]
  · constructor <;> simp
  · simp [pull_value, ofPulled_eq_pulledFlags]

end Sys2Proof.Machine

namespace Sys2Proof.Machine

open Sys2Proof.Claims

/-! ### Bytes by value -/

theorem byte_ofNat_mod (n : Nat) : BitVec.ofNat 8 (n % 256) = BitVec.ofNat 8 n := by
  apply BitVec.eq_of_toNat_eq
  simp

theorem byte_ofNat_emod (n : Int) : BitVec.ofNat 8 (n % 256).toNat = BitVec.ofInt 8 n := by
  apply BitVec.eq_of_toNat_eq
  rw [BitVec.toNat_ofInt, BitVec.toNat_ofNat, Nat.mod_eq_of_lt]
  · rfl
  · omega

theorem byte_sub_eq_ofInt (a b : Byte) : a - b = BitVec.ofInt 8 (a.toNat - b.toNat) := by
  apply BitVec.eq_of_toNat_eq
  rw [BitVec.toNat_ofInt, BitVec.toNat_sub]
  omega

theorem byte_add_one_eq_ofNat (v : Byte) : v + 1 = BitVec.ofNat 8 ((v.toNat + 1) % 256) := by
  apply BitVec.eq_of_toNat_eq
  simp

theorem byte_sub_one_eq_ofNat (v : Byte) : v - 1 = BitVec.ofNat 8 ((v.toNat + 255) % 256) := by
  apply BitVec.eq_of_toNat_eq
  rw [BitVec.toNat_sub, BitVec.toNat_ofNat, Nat.mod_mod, Nat.add_comm]
  rfl

theorem byte_beq_zero (v : Byte) : (v == 0) = decide (v.toNat = 0) := by
  rw [Bool.beq_eq_decide_eq, decide_eq_decide, ← BitVec.toNat_inj]
  rfl

/-- The sign of a byte is its bit 7. -/
theorem byte_sign (v : Byte) : v.getLsbD 7 = decide (128 ≤ v.toNat) := by
  rw [← BitVec.msb_eq_getLsbD_last, BitVec.msb_eq_decide]

/-! ### AddCore and SubCore (spec 43_alu R171, R172) -/

theorem State.add_eq (s : State) (m : Byte) : s.add m =
    { s with a := (addCore s.a m s.p).1, p := (addCore s.a m s.p).2, penalty := s.penalty + decimalCost s.p } := by
  unfold State.add State.chargeDecimal decimalCost
  split <;> rfl

theorem State.sub_eq (s : State) (m : Byte) : s.sub m =
    { s with a := (subCore s.a m s.p).1, p := (subCore s.a m s.p).2, penalty := s.penalty + decimalCost s.p } := by
  unfold State.sub State.chargeDecimal decimalCost
  split <;> rfl

/-- Settles O16: both paths share the binary flags; the decimal path then splits on the correction of the high digit. -/
theorem addCoreFollowsRule : Obligations.AddCoreFollowsRule := by
  refine ⟨fun a m p => ?_, State.add_eq⟩
  simp only [addCore, byte_ofNat_mod, byte_beq_zero]
  cases p.d with
  | false => simp
  | true =>
    simp only [if_true]
    split_ifs
    all_goals simp
    all_goals omega

/-- Settles O17: both paths share the binary flags; the decimal path then splits on the borrow of the high digit. -/
theorem subCoreFollowsRule : Obligations.SubCoreFollowsRule := by
  refine ⟨fun a m p => ?_, State.sub_eq⟩
  simp only [subCore, byte_ofNat_emod, byte_beq_zero, Int.natCast_emod, Nat.cast_ofNat]
  cases p.d with
  | false => simp
  | true =>
    simp only [if_true]
    split_ifs
    all_goals simp
    all_goals omega

/-! ### Packed decimal operands (spec 43_alu R170) -/

/-- A packed-BCD byte is its two decimal digits. -/
theorem isBcd_digits {v : Byte} (h : isBcd v = true) :
    ∃ hi lo : Nat, hi ≤ 9 ∧ lo ≤ 9 ∧ v.toNat = 16 * hi + lo ∧ bcdValue v = 10 * hi + lo := by
  rw [isBcd, Bool.and_eq_true, decide_eq_true_eq, decide_eq_true_eq] at h
  obtain ⟨hhi, hlo⟩ := h
  exact ⟨_, _, hhi, hlo, (Nat.div_add_mod v.toNat 16).symm, rfl⟩

/-- Carrying from the low digit into the high one does not change the number modulo 100. -/
theorem decimalDigits_mod (hi lo : Int) : 10 * ((hi + lo / 10) % 10) + lo % 10 = (10 * hi + lo) % 100 := by
  omega

/-- A byte made of two decimal digits is packed BCD, of the value they stand for modulo 100. -/
theorem isBcd_and_bcdValue {v : Byte} {hi lo : Int}
    (h : (v.toNat : Int) = 16 * ((hi + lo / 10) % 10) + lo % 10) :
    isBcd v = true ∧ (bcdValue v : Int) = (10 * hi + lo) % 100 := by
  rw [← decimalDigits_mod, isBcd, bcdValue, Bool.and_eq_true, decide_eq_true_eq, decide_eq_true_eq]
  generalize hi + lo / 10 = high at h
  omega

/-- The correction by 0x06 carries a decimal low digit into the high one. -/
theorem lowDigit_carry {hi lo : Nat} (h : lo ≤ 19) :
    (if lo > 9 then 16 * hi + lo + 6 else 16 * hi + lo) = 16 * (hi + lo / 10) + lo % 10 := by
  split_ifs <;> omega

/-- The correction by 0x60 takes a decimal high digit modulo 10. -/
theorem highDigit_carry {hi lo : Nat} (hlo : lo ≤ 9) (hhi : hi ≤ 19) :
    (if 16 * hi + lo > 0x99 then 16 * hi + lo + 0x60 else 16 * hi + lo) % 256 = 16 * (hi % 10) + lo := by
  split_ifs <;> omega

/-- The correction by -0x06 borrows for a decimal low digit from the high one. -/
theorem lowDigit_borrow {hi lo : Int} (hneg : -10 ≤ lo) (hpos : lo ≤ 9) :
    (if lo < 0 then 16 * hi + lo - 6 else 16 * hi + lo) = 16 * (hi + lo / 10) + lo % 10 := by
  split_ifs <;> omega

/-- The correction by -0x60 takes a decimal high digit modulo 10. -/
theorem highDigit_borrow {hi lo : Int} (hlo0 : 0 ≤ lo) (hlo : lo ≤ 9) (hneg : -10 ≤ hi) (hpos : hi ≤ 9) :
    (if 16 * hi + lo < 0 then 16 * hi + lo - 0x60 else 16 * hi + lo) % 256 = 16 * (hi % 10) + lo := by
  split_ifs <;> omega

section
variable {a m : Byte} {p : Status} {a1 a0 m1 m0 : Nat} (ha : a.toNat = 16 * a1 + a0) (hm : m.toNat = 16 * m1 + m0)
  (ha1 : a1 ≤ 9) (ha0 : a0 ≤ 9) (hm1 : m1 ≤ 9) (hm0 : m0 ≤ 9) (hd : p.d = true)
include ha hm ha1 ha0 hm1 hm0 hd

/-- The decimal sum, digit by digit: the low digits carry into the high ones, and these into C. -/
theorem addCore_decimal {lo hi : Nat} (hlo : lo = a0 + m0 + p.c.toNat) (hhi : hi = a1 + m1 + lo / 10) :
    (addCore a m p).1.toNat = 16 * (hi % 10) + lo % 10 ∧ (addCore a m p).2.c = decide (10 ≤ hi) := by
  have hc := p.c.toNat_le
  have hlow : a.toNat % 16 + m.toNat % 16 + p.c.toNat = lo := by omega
  have hbin : a.toNat + m.toNat + p.c.toNat = 16 * (a1 + m1) + lo := by omega
  have hlo9 : lo % 10 ≤ 9 := Nat.le_of_lt_succ (Nat.mod_lt _ (by decide))
  simp only [addCoreFollowsRule.1 a m p, hd, if_true, hlow, hbin, lowDigit_carry (show lo ≤ 19 by omega), ← hhi]
  rw [highDigit_carry hlo9 (by omega), BitVec.toNat_ofNat, decide_eq_decide]
  omega

/-- The decimal difference, digit by digit: the low digits borrow from the high ones, and these from C. -/
theorem subCore_decimal {lo hi : Int} (hlo : lo = (a0 : Int) - m0 - (1 - p.c.toNat)) (hhi : hi = a1 - m1 + lo / 10) :
    ((subCore a m p).1.toNat : Int) = 16 * (hi % 10) + lo % 10 ∧ (subCore a m p).2.c = decide (0 ≤ hi) := by
  have hc := p.c.toNat_le
  have hlow : (a.toNat % 16 : Int) - (m.toNat % 16 : Nat) - (1 - p.c.toNat) = lo := by omega
  have hbin : (a.toNat : Int) - m.toNat - (1 - p.c.toNat) = 16 * (a1 - m1 : Int) + lo := by omega
  have hlo0 : 0 ≤ lo % 10 := Int.emod_nonneg _ (by decide)
  have hlo9 : lo % 10 ≤ 9 := Int.le_of_lt_add_one (Int.emod_lt_of_pos _ (by decide))
  simp only [subCoreFollowsRule.1 a m p, hd, if_true, hlow, hbin,
    lowDigit_borrow (show -10 ≤ lo by omega) (show lo ≤ 9 by omega), ← hhi]
  rw [highDigit_borrow hlo0 hlo9 (by omega) (by omega), BitVec.toNat_ofNat, decide_eq_decide]
  omega

end

/-- Settles O18: the digits of the result, in base 10, are those of the sum or difference of the values. -/
theorem decimalIsPackedBcd : Obligations.DecimalIsPackedBcd := by
  intro a m p ha hm hd
  obtain ⟨a1, a0, ha1, ha0, ha, havalue⟩ := isBcd_digits ha
  obtain ⟨m1, m0, hm1, hm0, hm, hmvalue⟩ := isBcd_digits hm
  have hc := p.c.toNat_le
  rw [havalue, hmvalue]
  constructor
  · obtain ⟨hdigits, hcarry⟩ := addCore_decimal ha hm ha1 ha0 hm1 hm0 hd rfl rfl
    obtain ⟨hbcd, hvalue⟩ := isBcd_and_bcdValue (hi := (a1 + m1 : Nat)) (lo := (a0 + m0 + p.c.toNat : Nat))
      (by exact_mod_cast hdigits)
    clear hdigits
    rw [hcarry, decide_eq_decide]
    exact ⟨hbcd, by omega, by omega⟩
  · obtain ⟨hdigits, hborrow⟩ := subCore_decimal ha hm ha1 ha0 hm1 hm0 hd rfl rfl
    obtain ⟨hbcd, hvalue⟩ := isBcd_and_bcdValue hdigits
    clear hdigits
    rw [hborrow, decide_eq_decide]
    exact ⟨hbcd, by omega, by omega⟩

/-! ### Overflow (spec 43_alu R170) -/

/-- The two's-complement value of a byte, by its sign. -/
theorem byte_toInt (v : Byte) : v.toInt = if 128 ≤ v.toNat then (v.toNat : Int) - 256 else v.toNat := by
  rw [BitVec.toInt_eq_msb_cond, BitVec.msb_eq_decide]
  simp

/-- V of an addition: the operands have one sign and the binary sum the other. -/
theorem addCore_v_iff (a m : Byte) (p : Status) : (addCore a m p).2.v = true ↔
    ((128 ≤ a.toNat ↔ 128 ≤ m.toNat) ∧ ¬(128 ≤ a.toNat ↔ 128 ≤ (a.toNat + m.toNat + p.c.toNat) % 256)) := by
  rw [addCoreFollowsRule.1 a m p]
  dsimp only
  rw [byte_sign, byte_sign, byte_sign]
  simp

/-- V of a subtraction: the operands differ in sign, and the binary difference has not that of A. -/
theorem subCore_v_iff (a m : Byte) (p : Status) : (subCore a m p).2.v = true ↔
    (¬(128 ≤ a.toNat ↔ 128 ≤ m.toNat) ∧
      ¬(128 ≤ a.toNat ↔ 128 ≤ ((a.toNat : Int) - m.toNat - (1 - p.c.toNat)) % 256)) := by
  rw [subCoreFollowsRule.1 a m p]
  dsimp only
  rw [byte_sign, byte_sign, byte_sign]
  simp
  omega

/-- Settles O19: by the signs of the operands and of the binary result. -/
theorem overflowIsSignedOverflow : Obligations.OverflowIsSignedOverflow := by
  intro a m p
  have ha := a.isLt
  have hm := m.isLt
  have hc := p.c.toNat_le
  rw [addCore_v_iff, subCore_v_iff, byte_toInt, byte_toInt]
  constructor
  · split_ifs <;> omega
  · split_ifs <;> omega

end Sys2Proof.Machine

namespace Sys2Proof.Machine

open Sys2Proof.Claims

/-! ### Additions and subtractions (spec 43_alu R174, R175, 47_illegal R252) -/

theorem addSubtractRows_run (n : Byte) (nn : Word) :
    (∀ r ∈ adcRows n nn, RowRuns addWithCarry r) ∧ (∀ r ∈ sbcRows n nn, RowRuns subtractWithBorrow r) ∧
      ∀ r ∈ usbcRows n, RowRuns subtractWithBorrow r := by
  simp only [adcRows, sbcRows, usbcRows, List.forall_mem_cons, List.not_mem_nil, false_imp_iff, implies_true, and_true]
  and_intros
  all_goals exact ⟨encoded_of_encode rfl rfl, fun _ => rfl⟩

/-- A charge after the read of an operand adds to its cost. -/
theorem readsOnly_charge {src : Source} {s t : State} {cost : Nat} (h : ReadsOnly src s t cost) (k : Nat) :
    ReadsOnly src s (t.charge k) (cost + k) := by
  obtain ⟨⟨hjammed, hopcode, htotal, hirq, hcfg⟩, ⟨hstore, hperipherals, hdraws⟩, hpenalty⟩ := h
  refine ⟨⟨hjammed, hopcode, htotal, hirq, hcfg⟩,
    ⟨noStore_of_memories hstore.memories hstore.notifications hcfg, hperipherals, hdraws⟩, ?_⟩
  rw [charge_penalty, hpenalty, Nat.add_assoc]

/-- Rows add when their meaning gives the operand to `core` and pays for the decimal correction. -/
theorem addsIntoA_of_rowRuns {rows : List (Row Source)} {f : Source → State → State} {s : State}
    {core : Byte → Byte → Status → Byte × Status} (hrows : ∀ r ∈ rows, RowRuns f r)
    (hf : ∀ src, f src s = let r := readOperand src s
      { r.2 with a := (core r.2.a r.1 r.2.p).1, p := (core r.2.a r.1 r.2.p).2,
                 penalty := r.2.penalty + decimalCost r.2.p }) : AddsIntoA rows s core := by
  refine eachCompletes_of_rowRuns hrows fun src => ?_
  rw [hf src]
  dsimp only
  rw [readOperand_a, readOperand_p]
  exact ⟨by constructor <;> simp, rfl,
    readsOnly_withRegisters (readsOnly_charge (readOperand_readsOnly src s) _) _ _ _ _ _ _⟩

/-- Settles O20: each row is one read of its operand and then AddCore or SubCore. -/
theorem addSubtractInstructions : Obligations.AddSubtractInstructions := by
  intro s n nn
  obtain ⟨hadc, hsbc, husbc⟩ := addSubtractRows_run n nn
  exact ⟨addsIntoA_of_rowRuns hadc fun _ => State.add_eq _ _, addsIntoA_of_rowRuns hsbc fun _ => State.sub_eq _ _,
    addsIntoA_of_rowRuns husbc fun _ => State.sub_eq _ _⟩

/-! ### Logic (spec 43_alu R176 to R178) -/

theorem logicRows_run (n : Byte) (nn : Word) :
    (∀ r ∈ andRows n nn, RowRuns andA r) ∧ (∀ r ∈ oraRows n nn, RowRuns orA r) ∧
      ∀ r ∈ eorRows n nn, RowRuns eorA r := by
  simp only [andRows, oraRows, eorRows, List.forall_mem_cons, List.not_mem_nil, false_imp_iff, implies_true, and_true]
  and_intros
  all_goals exact ⟨encoded_of_encode rfl rfl, fun _ => rfl⟩

/-- Rows combine when their meaning writes `op A m` to A and sets N and Z by it. -/
theorem combinesIntoA_of_rowRuns {rows : List (Row Source)} {f : Source → State → State} {s : State}
    {op : Byte → Byte → Byte} (hrows : ∀ r ∈ rows, RowRuns f r)
    (hf : ∀ src, f src s = let r := readOperand src s
      (r.2.setA (op r.2.a r.1)).setNZ (op r.2.a r.1)) : CombinesIntoA rows s op := by
  refine eachCompletes_of_rowRuns hrows fun src => ?_
  rw [hf src]
  dsimp only
  rw [readOperand_a, State.setNZ_eq_flagsNZ]
  exact ⟨by constructor <;> simp, by simp,
    readsOnly_withRegisters (readOperand_readsOnly src s) _ _ _ _ _ _⟩

/-- Settles O21: each row is one read of its operand, and then the operation's result in A, N and Z. -/
theorem logicInstructions : Obligations.LogicInstructions := by
  intro s n nn
  obtain ⟨hand, hora, heor⟩ := logicRows_run n nn
  exact ⟨combinesIntoA_of_rowRuns hand fun _ => rfl, combinesIntoA_of_rowRuns hora fun _ => rfl,
    combinesIntoA_of_rowRuns heor fun _ => rfl⟩

/-! ### Compares and BIT (spec 43_alu R173, R179 to R182) -/

theorem Status.compare_eq_compareFlags (p : Status) (r m : Byte) : p.compare r m = compareFlags p r m := by
  rw [Status.compare, Status.setNZ_eq_flagsNZ, byte_sub_eq_ofInt]
  rfl

theorem Status.bit_eq_bitFlags (p : Status) (a m : Byte) : p.bit a m = bitFlags p a m := by
  rw [Status.bit, byte_beq_zero]
  rfl

theorem compareRows_run (n : Byte) (nn : Word) :
    (∀ r ∈ cmpRows n nn, RowRuns compareA r) ∧ (∀ r ∈ cpxRows n nn, RowRuns compareX r) ∧
      (∀ r ∈ cpyRows n nn, RowRuns compareY r) ∧ ∀ r ∈ bitRows n nn, RowRuns bitTest r := by
  simp only [cmpRows, cpxRows, cpyRows, bitRows, List.forall_mem_cons, List.not_mem_nil, false_imp_iff, implies_true,
    and_true]
  and_intros
  all_goals exact ⟨encoded_of_encode rfl rfl, fun _ => rfl⟩

/-- Rows set flags when their meaning only reads the operand and writes P. -/
theorem setsFlags_of_rowRuns {rows : List (Row Source)} {f : Source → State → State} {s : State}
    {flags : Byte → Status} (hrows : ∀ r ∈ rows, RowRuns f r)
    (hf : ∀ src, f src s = (readOperand src s).2.setP (flags (readOperand src s).1)) : SetsFlags rows s flags := by
  refine eachCompletes_of_rowRuns hrows fun src => ?_
  rw [hf src]
  exact ⟨by constructor <;> simp, rfl, readsOnly_withRegisters (readOperand_readsOnly src s) _ _ _ _ _ _⟩

/-- Settles O22: each row is one read of its operand and one write of P, whose flags are the rule's by value. -/
theorem compareAndBitInstructions : Obligations.CompareAndBitInstructions := by
  refine ⟨fun s n nn => ?_, fun p r m => ⟨Status.compare_eq_compareFlags p r m, ?_⟩⟩
  · obtain ⟨hcmp, hcpx, hcpy, hbit⟩ := compareRows_run n nn
    refine ⟨setsFlags_of_rowRuns hcmp fun src => ?_, setsFlags_of_rowRuns hcpx fun src => ?_,
      setsFlags_of_rowRuns hcpy fun src => ?_, setsFlags_of_rowRuns hbit fun src => ?_⟩
    · simp [compareA, Status.compare_eq_compareFlags]
    · simp [compareX, Status.compare_eq_compareFlags]
    · simp [compareY, Status.compare_eq_compareFlags]
    · simp [bitTest, Status.bit_eq_bitFlags]
  · rw [Status.compare, Status.setNZ_z, beq_iff_eq]
    exact sub_eq_zero

/-! ### Increments and decrements of the index registers (spec 43_alu R185 to R188) -/

/-- Settles O23: each is one register write, and N and Z by its value. -/
theorem indexIncrementDecrement : Obligations.IndexIncrementDecrement := by
  intro s
  simp only [← byte_add_one_eq_ofNat, ← byte_sub_one_eq_ofNat]
  refine ⟨⟨encoded_of_encode rfl rfl, ?_⟩, ⟨encoded_of_encode rfl rfl, ?_⟩, ⟨encoded_of_encode rfl rfl, ?_⟩,
    ⟨encoded_of_encode rfl rfl, ?_⟩⟩
  · exact congrArg Host.Outcome.next (State.setNZ_eq_flagsNZ (s.setX (s.x + 1)) (s.x + 1))
  · exact congrArg Host.Outcome.next (State.setNZ_eq_flagsNZ (s.setY (s.y + 1)) (s.y + 1))
  · exact congrArg Host.Outcome.next (State.setNZ_eq_flagsNZ (s.setX (s.x - 1)) (s.x - 1))
  · exact congrArg Host.Outcome.next (State.setNZ_eq_flagsNZ (s.setY (s.y - 1)) (s.y - 1))

/-! ### The cores of the read-modify-write instructions (spec 43_alu R183, R184, 44_shift_rotate R200) -/

theorem incCore_eq_incRule : incCore = incRule := by
  funext m p
  rw [incCore, Status.setNZ_eq_flagsNZ, byte_add_one_eq_ofNat]
  rfl

theorem decCore_eq_decRule : decCore = decRule := by
  funext m p
  rw [decCore, Status.setNZ_eq_flagsNZ, byte_sub_one_eq_ofNat]
  rfl

theorem byte_shiftLeft_one_eq_ofNat (m : Byte) : m <<< 1 = BitVec.ofNat 8 (m.toNat * 2 % 256) := by
  apply BitVec.eq_of_toNat_eq
  simp [Nat.shiftLeft_eq]

theorem byte_shiftRight_one_eq_ofNat (m : Byte) : m >>> 1 = BitVec.ofNat 8 (m.toNat / 2) := by
  apply BitVec.eq_of_toNat_eq
  rw [BitVec.toNat_ushiftRight, Nat.shiftRight_eq_div_pow, BitVec.toNat_ofNat]
  omega

theorem flagBit_eq_ofNat (b : Bool) (k : Nat) : flagBit b k = BitVec.ofNat 8 (b.toNat * 2 ^ k) := by
  cases b with
  | false => simp [flagBit]
  | true =>
    apply BitVec.eq_of_toNat_eq
    simp [flagBit, Nat.shiftLeft_eq]

/-- The bit a left shift frees takes the old C. -/
theorem byte_shiftLeft_or_flagBit (m : Byte) (b : Bool) :
    m <<< 1 ||| flagBit b 0 = BitVec.ofNat 8 (m.toNat * 2 % 256 + b.toNat) := by
  have hdisjoint : m <<< 1 &&& flagBit b 0 = 0 := by
    ext i hi
    cases i <;> cases b <;> simp [flagBit]
  rw [← BitVec.add_eq_or_of_and_eq_zero _ _ hdisjoint, byte_shiftLeft_one_eq_ofNat, flagBit_eq_ofNat, ← BitVec.ofNat_add,
    pow_zero, mul_one]

/-- The bit a right shift frees takes the old C. -/
theorem byte_shiftRight_or_flagBit (m : Byte) (b : Bool) :
    m >>> 1 ||| flagBit b 7 = BitVec.ofNat 8 (m.toNat / 2 + 128 * b.toNat) := by
  have hdisjoint : m >>> 1 &&& flagBit b 7 = 0 := by
    ext i hi
    interval_cases i <;> cases b <;> simp [flagBit]
  rw [← BitVec.add_eq_or_of_and_eq_zero _ _ hdisjoint, byte_shiftRight_one_eq_ofNat, flagBit_eq_ofNat, ← BitVec.ofNat_add,
    Nat.mul_comm]
  rfl

theorem aslCore_eq_aslRule : aslCore = aslRule := by
  funext m p
  simp only [aslCore, Status.setNZ_eq_flagsNZ, byte_shiftLeft_one_eq_ofNat]
  rfl

theorem lsrCore_eq_lsrRule : lsrCore = lsrRule := by
  funext m p
  simp only [lsrCore, Status.setNZ_eq_flagsNZ, byte_shiftRight_one_eq_ofNat]
  rfl

theorem rolCore_eq_rolRule : rolCore = rolRule := by
  funext m p
  simp only [rolCore, Status.setNZ_eq_flagsNZ, byte_shiftLeft_or_flagBit]
  rfl

theorem rorCore_eq_rorRule : rorCore = rorRule := by
  funext m p
  simp only [rorCore, Status.setNZ_eq_flagsNZ, byte_shiftRight_or_flagBit]
  rfl

/-! ### Read-modify-write (spec 43_alu R183, R184, 44_shift_rotate R201 to R204) -/

theorem modifyRows_run (n : Byte) (nn : Word) :
    (∀ r ∈ incRows n nn, RowRuns (fun m => incrementMemory (.memory m)) r) ∧
      (∀ r ∈ decRows n nn, RowRuns (fun m => decrementMemory (.memory m)) r) ∧
      (∀ r ∈ aslRows n nn, RowRuns (fun m => shiftLeft (.memory m)) r) ∧
      (∀ r ∈ lsrRows n nn, RowRuns (fun m => shiftRight (.memory m)) r) ∧
      (∀ r ∈ rolRows n nn, RowRuns (fun m => rotateLeft (.memory m)) r) ∧
      ∀ r ∈ rorRows n nn, RowRuns (fun m => rotateRight (.memory m)) r := by
  simp only [incRows, decRows, aslRows, lsrRows, rolRows, rorRows, List.forall_mem_cons, List.not_mem_nil, false_imp_iff,
    implies_true, and_true]
  and_intros
  all_goals exact ⟨encoded_of_encode rfl rfl, fun _ => rfl⟩

/-- A modify stores its one byte at the effective address, after the reads of its mode and of that byte alone. -/
theorem modifyOperand_storesByte (m : AddrMode) (core : Byte → Status → Byte × Status) (s : State) :
    StoresByte s (modifyRead m s).2 (modifyOperand (.memory m) core s).2 (resolve m s).ea
      (core (modifyRead m s).1 s.p).1 := by
  have hp : (modifyRead m s).2.p = s.p := by simp [modifyRead]
  obtain ⟨hwritten, hcell, hdiscarded, houtside, hdevice, hmemory, hdraws⟩ :=
    store_storesByte (s := s) (u := (modifyRead m s).2.setP (core (modifyRead m s).1 s.p).2) (by simp [modifyRead])
      (by simp [modifyRead]) (by simp [modifyRead]) (resolve m s).ea (core (modifyRead m s).1 s.p).1
  rw [← hp] at hwritten hcell hdiscarded houtside hdevice hmemory hdraws ⊢
  exact ⟨hwritten, hcell, hdiscarded, houtside, hdevice, hmemory, hdraws⟩

/-- Rows modify memory when their meaning modifies their operand by `core`. -/
theorem modifiesMemory_of_rowRuns {rows : List (Row AddrMode)} {f : AddrMode → State → State} {s : State}
    {core : Byte → Status → Byte × Status} (hrows : ∀ r ∈ rows, RowRuns f r)
    (hf : ∀ m, f m s = (modifyOperand (.memory m) core s).2) : ModifiesMemory rows s core := by
  refine eachCompletes_of_rowRuns hrows fun m => ?_
  rw [hf m]
  exact ⟨by constructor <;> simp, modifyOperand_memory_p m core s, by constructor <;> simp,
    modifyOperand_penalty _ core s, modifyOperand_storesByte m core s⟩

/-- Settles O25: each row modifies its operand by its core, which is the rule by value. -/
theorem modifyInstructions : Obligations.ModifyInstructions := by
  intro s n nn
  rw [← incCore_eq_incRule, ← decCore_eq_decRule, ← aslCore_eq_aslRule, ← lsrCore_eq_lsrRule, ← rolCore_eq_rolRule,
    ← rorCore_eq_rorRule]
  obtain ⟨hinc, hdec, hasl, hlsr, hrol, hror⟩ := modifyRows_run n nn
  exact ⟨modifiesMemory_of_rowRuns hinc fun _ => rfl, modifiesMemory_of_rowRuns hdec fun _ => rfl,
    modifiesMemory_of_rowRuns hasl fun _ => rfl, modifiesMemory_of_rowRuns hlsr fun _ => rfl,
    modifiesMemory_of_rowRuns hrol fun _ => rfl, modifiesMemory_of_rowRuns hror fun _ => rfl,
    ⟨encoded_of_encode rfl rfl, rfl⟩, ⟨encoded_of_encode rfl rfl, rfl⟩, ⟨encoded_of_encode rfl rfl, rfl⟩,
    ⟨encoded_of_encode rfl rfl, rfl⟩⟩

end Sys2Proof.Machine

namespace Sys2Proof.Machine

/-! ### The shift cores (spec 44_shift_rotate R200) -/

/-- A right shift clears bit 7, which N copies. -/
theorem lsrCore_n (m : Byte) (p : Status) : (lsrCore m p).2.n = false := by
  rw [lsrCore, Status.setNZ_n, BitVec.getLsbD_ushiftRight]
  exact BitVec.getLsbD_of_ge m _ le_rfl

/-- Settles O24: each core is its rule by value, and a core's flags differ from the old ones in C, Z and N alone. -/
theorem shiftCoresFollowRule : Obligations.ShiftCoresFollowRule := by
  refine fun m p => ⟨congrFun₂ aslCore_eq_aslRule m p, congrFun₂ lsrCore_eq_lsrRule m p,
    congrFun₂ rolCore_eq_rolRule m p, congrFun₂ rorCore_eq_rorRule m p, lsrCore_n m p, ?_⟩
  simp only [List.forall_mem_cons]
  refine ⟨?asl, ?lsr, ?rol, ?ror, List.forall_mem_nil _⟩
  all_goals exact ⟨rfl, rfl, rfl, rfl⟩

end Sys2Proof.Machine

namespace Sys2Proof.Machine

open Sys2Proof.Claims

/-! ### Several steps of S (spec 10_state R24) -/

theorem sp_add_two (sp : Byte) : sp + 1 + 1 = sp + 2 := by bv_omega

theorem sp_add_three (sp : Byte) : sp + 1 + 1 + 1 = sp + 3 := by bv_omega

theorem sp_sub_two (sp : Byte) : sp - 1 - 1 = sp - 2 := by bv_omega

theorem sp_sub_three (sp : Byte) : sp - 1 - 1 - 1 = sp - 3 := by bv_omega

/-! ### Several pushes and pulls (spec 42_stack R160, R161) -/

@[simp] theorem cellOf_push (s : State) (v : Byte) (addr : Word) : cellOf (push s v) addr = cellOf s addr :=
  cellOf_store s (stackAddr s.sp) addr v

theorem outsideCell_push {s : State} {v : Byte} {addr ea : Word} :
    OutsideCell (push s v) addr ea ↔ OutsideCell s addr ea := by
  simp [OutsideCell]

theorem writableAt_congr {s t : State} (hmemories : t.memories = s.memories) (hcfg : t.cfg = s.cfg) (addr : Word) :
    writableAt t addr = writableAt s addr := by
  rw [writableAt, route_congr hmemories hcfg, writableAt]

/-- No store takes the write access or the canonical form from a Memory. -/
theorem writableAt_store {s : State} {b : Word} (h : writableAt s b = true) (a : Word) (v : Byte) :
    writableAt (store s a v) b = true := by
  obtain ⟨k', m', off', hb, hro', hwf'⟩ := writableAt_cases h
  cases hr : route s a with
  | unmapped => rwa [store_unmapped hr]
  | device k r w => exact store_device hr v ▸ (writableAt_congr rfl rfl b).trans h
  | cell k m off =>
    cases hro : m.readOnly with
    | true => rwa [store_readOnly hr hro]
    | false =>
      rw [writableAt, route_store hr hro, hb]
      by_cases hk : k' = k
      · subst hk
        obtain rfl : m = m' := Option.some.inj ((route_cell_memory hr).symm.trans (route_cell_memory hb))
        simp [hro, Memory.put_wf hwf']
      · simp [hk, hro', hwf']

theorem writableAt_push {s : State} {addr : Word} (h : writableAt s addr = true) (v : Byte) :
    writableAt (push s v) addr = true :=
  writableAt_store h (stackAddr s.sp) v

theorem stackReady2_iff {s : State} : stackReady2 s = true ↔
    stackReady1 s = true ∧ writableAt s (stackAddr (s.sp - 1)) = true ∧
      cellOf s (stackAddr s.sp) ≠ cellOf s (stackAddr (s.sp - 1)) := by
  simp [stackReady2, and_assoc]

theorem stackReady3_iff {s : State} : stackReady3 s = true ↔
    stackReady2 s = true ∧ writableAt s (stackAddr (s.sp - 2)) = true ∧
      cellOf s (stackAddr s.sp) ≠ cellOf s (stackAddr (s.sp - 2)) ∧
      cellOf s (stackAddr (s.sp - 1)) ≠ cellOf s (stackAddr (s.sp - 2)) := by
  simp [stackReady3, and_assoc]

/-- The first of two pushes leaves the stack ready for the second. -/
theorem stackReady1_push {s : State} (h : stackReady2 s = true) (v : Byte) : stackReady1 (push s v) = true := by
  obtain ⟨-, hsecond, -⟩ := stackReady2_iff.mp h
  rw [stackReady1, push_sp]
  exact writableAt_push hsecond v

/-- The first of three pushes leaves the stack ready for the other two. -/
theorem stackReady2_push {s : State} (h : stackReady3 s = true) (v : Byte) : stackReady2 (push s v) = true := by
  obtain ⟨htwo, hthird, -, hcells⟩ := stackReady3_iff.mp h
  rw [stackReady2_iff, push_sp, sp_sub_two, cellOf_push, cellOf_push]
  exact ⟨stackReady1_push htwo v, writableAt_push hthird v, hcells⟩

theorem peek_push_same {s : State} (h : stackReady1 s = true) (v : Byte) :
    peek (push s v) (stackAddr s.sp) = some v :=
  (push_storesByte s v).written h _ rfl

theorem peek_push_outside {s : State} {addr : Word} (h : OutsideCell s addr (stackAddr s.sp)) (v : Byte) :
    peek (push s v) addr = peek s addr :=
  (push_storesByte s v).outside addr h

/-- Two pushes into different cells of writable memory are both there to be read. -/
theorem peek_push_push {s : State} (h : stackReady2 s = true) (v w : Byte) :
    peek (push (push s v) w) (stackAddr s.sp) = some v ∧
      peek (push (push s v) w) (stackAddr (s.sp - 1)) = some w := by
  obtain ⟨hfirst, -, hcells⟩ := stackReady2_iff.mp h
  have hsecond := peek_push_same (stackReady1_push h v) w
  have houtside : OutsideCell (push s v) (stackAddr s.sp) (stackAddr (push s v).sp) := by
    rw [outsideCell_push, push_sp]
    exact .inr hcells
  rw [push_sp] at hsecond
  exact ⟨(peek_push_outside houtside w).trans (peek_push_same hfirst v), hsecond⟩

/-- Three pushes into different cells of writable memory are all there to be read. -/
theorem peek_push_push_push {s : State} (h : stackReady3 s = true) (v w z : Byte) :
    peek (push (push (push s v) w) z) (stackAddr s.sp) = some v ∧
      peek (push (push (push s v) w) z) (stackAddr (s.sp - 1)) = some w ∧
      peek (push (push (push s v) w) z) (stackAddr (s.sp - 2)) = some z := by
  obtain ⟨htwo, -, hcells, -⟩ := stackReady3_iff.mp h
  obtain ⟨hfirst, -⟩ := peek_push_push htwo v w
  have hlast := peek_push_push (stackReady2_push h v) w z
  have houtside : OutsideCell (push (push s v) w) (stackAddr s.sp) (stackAddr (push (push s v) w).sp) := by
    rw [outsideCell_push, outsideCell_push, push_sp, push_sp, sp_sub_two]
    exact .inr hcells
  rw [push_sp, sp_sub_two] at hlast
  exact ⟨(peek_push_outside houtside z).trans hfirst, hlast⟩

theorem peek_push_push_outside {s : State} {addr : Word} (hfirst : OutsideCell s addr (stackAddr s.sp))
    (hsecond : OutsideCell s addr (stackAddr (s.sp - 1))) (v w : Byte) :
    peek (push (push s v) w) addr = peek s addr := by
  have hsecond' : OutsideCell (push s v) addr (stackAddr (push s v).sp) := by rwa [outsideCell_push, push_sp]
  exact (peek_push_outside hsecond' w).trans (peek_push_outside hfirst v)

theorem peek_push_push_push_outside {s : State} {addr : Word} (hfirst : OutsideCell s addr (stackAddr s.sp))
    (hsecond : OutsideCell s addr (stackAddr (s.sp - 1))) (hthird : OutsideCell s addr (stackAddr (s.sp - 2)))
    (v w z : Byte) : peek (push (push (push s v) w) z) addr = peek s addr := by
  have hthird' : OutsideCell (push (push s v) w) addr (stackAddr (push (push s v) w).sp) := by
    rwa [outsideCell_push, outsideCell_push, push_sp, push_sp, sp_sub_two]
  exact (peek_push_outside hthird' z).trans (peek_push_push_outside hfirst hsecond v w)

/-- Where a read of the next stack byte finds a value without asking a peripheral, a pull returns it and moves S alone. -/
theorem pull_of_peek {s : State} {sp v : Byte} (hsp : s.sp + 1 = sp) (h : peek s (stackAddr sp) = some v) :
    pull s = (v, s.setSp sp) := by
  rw [pull_eq_load, hsp, load_of_peek h]

/-- Where the two stack bytes are writable memory, two pulls find the bytes pushed, the last one first, and take S back. -/
theorem pull_push_push {s : State} (h : stackReady2 s = true) (v w : Byte) :
    pull (push (push s v) w) = (w, (push (push s v) w).setSp (s.sp - 1)) ∧
      pull ((push (push s v) w).setSp (s.sp - 1)) = (v, (push (push s v) w).setSp s.sp) := by
  obtain ⟨hv, hw⟩ := peek_push_push h v w
  refine ⟨pull_of_peek ?_ hw, pull_of_peek (BitVec.sub_add_cancel s.sp 1) hv⟩
  rw [push_sp, push_sp, BitVec.sub_add_cancel]

theorem pull_setPc (s : State) (w : Word) : pull (s.setPc w) = ((pull s).1, (pull s).2.setPc w) :=
  load_setPc (s.setSp (s.sp + 1)) w (stackAddr (s.sp + 1))

theorem pull_setP (s : State) (p : Status) : pull (s.setP p) = ((pull s).1, (pull s).2.setP p) :=
  load_setP (s.setSp (s.sp + 1)) p (stackAddr (s.sp + 1))

/-! ### Jumps (spec 45_control R210, R211, 40_addressing_modes R124) -/

/-- The address of the high byte of an indirect target, which stays in the page of the pointer. -/
theorem wrappedNext_eq (ptr : Word) : ((ptr &&& 0xFF00) ||| ((ptr + 1) &&& 0x00FF)) =
    if ptr.toNat % 256 = 255 then BitVec.ofNat 16 (ptr.toNat - 255) else ptr + 1 := by
  have hlt := ptr.isLt
  apply BitVec.eq_of_toNat_eq
  rw [wrappedNext_toNat]
  split_ifs
  · rw [BitVec.toNat_ofNat]
    omega
  · have hnext : (ptr + 1).toNat = (ptr.toNat + 1) % 65536 := BitVec.toNat_add ptr 1
    omega

/-- Reads alone, and then writes of P and PC, store nothing. -/
theorem onlyRead_setP_setPc {s u : State} (hmemories : u.memories = s.memories)
    (hnotifications : u.notifications = s.notifications) (hcfg : u.cfg = s.cfg) (p : Status) (w : Word) :
    OnlyRead s u ((u.setP p).setPc w) :=
  ⟨noStore_of_memories hmemories hnotifications hcfg, rfl, rfl⟩

/-- Settles O28: JMP is a write of PC, after the two reads of the pointer where it is indirect. -/
theorem jumpInstructions : Obligations.JumpInstructions := by
  intro s nn ptr
  refine ⟨⟨encoded_of_encode rfl rfl, rfl⟩, ?_⟩
  rw [← wrappedNext_eq]
  refine eachCompletes_singleton (encoded_of_encode rfl rfl) rfl ⟨?_, by simp, ?_, by simp, ?_⟩
  · rw [← mkWord_eq_ofNat]
    exact ⟨by simp, by simp, by simp, by simp, rfl⟩
  · constructor <;> simp
  · exact onlyRead_setP_setPc (indirectTarget_memories ptr s) (indirectTarget_notifications ptr s)
      (indirectTarget_cfg ptr s) _ _

/-! ### Subroutines (spec 45_control R212, R213) -/

theorem mkWord_add_one_eq_ofNat (hi lo : Byte) :
    mkWord hi lo + 1 = BitVec.ofNat 16 ((256 * hi.toNat + lo.toNat + 1) % 65536) := by
  rw [add_one_eq_ofNat, mkWord_toNat, Nat.add_comm lo.toNat]

/-- Settles O29: JSR is two pushes and RTS two pulls, and each then writes PC. -/
theorem subroutineInstructions : Obligations.SubroutineInstructions := by
  refine ⟨fun s nn => ?_, fun s => ?_⟩
  · refine eachCompletes_singleton (encoded_of_encode rfl rfl) rfl ⟨rfl, ?_, by simp, ?_, by simp, ?_, ?_⟩
    · exact ⟨by simp, by simp, by simp, sp_sub_two s.sp, rfl⟩
    · constructor <;> simp
    · exact fun h => peek_push_push h _ _
    · exact fun addr hfirst hsecond => peek_push_push_outside hfirst hsecond _ _
  · refine eachCompletes_singleton (encoded_of_encode rfl rfl) rfl ⟨?_, by simp, ?_, by simp, ?_⟩
    · rw [← mkWord_add_one_eq_ofNat]
      exact ⟨by simp, by simp, by simp, by rw [setPc_sp, pull_sp, pull_sp, sp_add_two], rfl⟩
    · constructor <;> simp
    · exact onlyRead_setP_setPc (by simp) (by simp) (by simp) _ _

/-- Settles O30: RTS pulls the two bytes JSR pushed, which are PC - 1. -/
theorem jsrThenRts : Obligations.JsrThenRts := by
  intro s nn h
  obtain ⟨hlo, hhi⟩ := pull_push_push h (hiByte (s.pc - 1)) (loByte (s.pc - 1))
  refine ⟨_, rfl, rfl, _, rfl, ?_⟩
  simp only [pull_setPc, hlo, hhi, mkWord_hiByte_loByte, BitVec.sub_add_cancel]
  refine ⟨?_, by simp⟩
  constructor <;> simp

/-! ### Interrupt entry and BRK (spec 60_exceptions R271, 45_control R223) -/

theorem push_setPc (s : State) (w : Word) (v : Byte) : push (s.setPc w) v = (push s v).setPc w :=
  congrArg (State.setSp · (s.sp - 1)) (store_setPc s w (stackAddr s.sp) v)

theorem loadWord_setPc (s : State) (w addr : Word) :
    loadWord (s.setPc w) addr = ((loadWord s addr).1, (loadWord s addr).2.setPc w) := by
  simp only [loadWord, load_setPc]

theorem loadWord_setP (s : State) (p : Status) (addr : Word) :
    loadWord (s.setP p) addr = ((loadWord s addr).1, (loadWord s addr).2.setP p) := by
  simp only [loadWord, load_setP]

theorem loadWord_of_peek {s : State} {addr : Word} {lo hi : Byte} (hlo : peek s addr = some lo)
    (hhi : peek s (addr + 1) = some hi) : loadWord s addr = (mkWord hi lo, s) := by
  simp only [loadWord, load_of_peek hlo, load_of_peek hhi]

/-- The interrupt entry at `ret`: the three pushes, the vector read after them, and the writes of P and PC. -/
theorem interruptEntry_setPc (b : Bool) (ret : Word) (s : State) : interruptEntry b (s.setPc ret) =
    ((loadWord (entryPushes b ret s) 0xFFFE).2.setP { s.p with i := true }).setPc
      (loadWord (entryPushes b ret s) 0xFFFE).1 := by
  simp only [interruptEntry, entryPushes, pushedStatus_eq_toByte, push_setPc, setPc_pc, setPc_p, push_p,
    loadWord_setP, loadWord_setPc]
  rfl

/-- What the entry leaves: the frame of three pushes, then of the vector's reads (spec 60_exceptions R271). -/
theorem entered_interruptEntry (b : Bool) (ret : Word) (s : State) :
    Entered b ret s (interruptEntry b (s.setPc ret)) := by
  have hpushed (h : stackReady3 s = true) :=
    peek_push_push_push h (hiByte ret) (loByte ret) (Status.toByte { s.p with b := b })
  have hpeek (addr : Word) : peek (interruptEntry b (s.setPc ret)) addr = peek (entryPushes b ret s) addr := by
    rw [interruptEntry_setPc, peek_setPc, peek_setP, peek_loadWord]
  constructor
  case regs =>
    exact ⟨by simp, by simp, by simp, by rw [interruptEntry_sp, setPc_sp, sp_sub_three],
      by rw [interruptEntry_setPc, setPc_pc]⟩
  case p => rw [interruptEntry_p, setPc_p]
  case hidden => constructor <;> simp
  case penalty => rw [interruptEntry_penalty, setPc_penalty]
  case pch =>
    intro h
    obtain ⟨hpch, -, -⟩ := hpushed h
    exact (hpeek _).trans hpch
  case pcl =>
    intro h
    obtain ⟨-, hpcl, -⟩ := hpushed h
    exact (hpeek _).trans hpcl
  case status =>
    intro h
    obtain ⟨-, -, hstatus⟩ := hpushed h
    exact (hpeek _).trans hstatus
  case outside =>
    exact fun addr hfirst hsecond hthird =>
      (hpeek addr).trans (peek_push_push_push_outside hfirst hsecond hthird _ _ _)
  case vector =>
    intro lo hi hlo hhi
    rw [hpeek] at hlo hhi
    rw [interruptEntry_setPc, setPc_pc, loadWord_of_peek hlo hhi]
  case memories => rw [interruptEntry_setPc, setPc_memories, setP_memories, loadWord_memories]
  case notifications => rw [interruptEntry_setPc, setPc_notifications, setP_notifications, loadWord_notifications]
  case peripherals => rw [interruptEntry_setPc, setPc_peripherals, setP_peripherals]
  case draws => rw [interruptEntry_setPc, setPc_draws, setP_draws]

/-- Settles O32: BRK is the interrupt entry past its signature byte. -/
theorem brkAndInterruptEntry : Obligations.BrkAndInterruptEntry :=
  ⟨fun s b => entered_interruptEntry b s.pc s, fun s =>
    eachCompletes_singleton (encoded_of_encode rfl rfl) rfl (entered_interruptEntry true (s.pc + 1) s)⟩

/-! ### RTI (spec 45_control R224) -/

/-- The return from an interrupt: three pulls, and then the writes of P and PC. -/
theorem returnFromInterrupt_eq (s : State) : returnFromInterrupt s =
    ((pull (pull (pull s).2).2).2.setP (Status.ofPulled (pull s).1)).setPc
      (mkWord (pull (pull (pull s).2).2).1 (pull (pull s).2).1) := by
  simp only [returnFromInterrupt, pull_setP]

/-- Settles O33: RTI is three pulls, of which the first goes to P and the other two to PC. -/
theorem rtiInstruction : Obligations.RtiInstruction := by
  intro s
  refine eachCompletes_singleton (encoded_of_encode rfl rfl) (t := returnFromInterrupt s) rfl ⟨?_, ?_, ?_, ?_, ?_⟩
  · rw [← mkWord_eq_ofNat]
    exact ⟨by simp, by simp, by simp, by rw [returnFromInterrupt_sp, sp_add_three],
      by rw [returnFromInterrupt_eq, setPc_pc]⟩
  · rw [returnFromInterrupt_p, ofPulled_eq_pulledFlags]
  · constructor <;> simp
  · exact returnFromInterrupt_penalty s
  · rw [returnFromInterrupt_eq]
    exact onlyRead_setP_setPc (by simp) (by simp) (by simp) _ _

end Sys2Proof.Machine

namespace Sys2Proof.Machine

open Sys2Proof.Claims

/-! ### Flag instructions (spec 46_flags_nop R230 to R236) -/

/-- An instruction that only writes P, encoded by its own bytes at its own opcode's base cost. -/
theorem gives_of_exec_eq_setP {i : Instr} {bytes : List Byte} {cycles : Nat} {s : State} {p : Status}
    (hbytes : encode i = bytes) (hcycles : baseCycles i.opcode = cycles) (hexec : exec i s = .next (s.setP p)) :
    Gives i bytes cycles s { s with p := p } :=
  ⟨encoded_of_encode hbytes hcycles, hexec⟩

/-- Settles O36: each is one write of P, in which one flag differs. -/
theorem flagInstructions : Obligations.FlagInstructions := by
  intro s
  refine ⟨?clc, ?sec, ?cli, ?sei, ?cld, ?sed, ?clv⟩
  all_goals exact gives_of_exec_eq_setP rfl rfl rfl

/-! ### NOPs (spec 46_flags_nop R237, 47_illegal R253) -/

theorem impliedNopRows_run : ∀ r ∈ impliedNopRows, RowRuns (fun _ => id) r := by
  simp only [impliedNopRows, List.forall_mem_cons, List.not_mem_nil, false_imp_iff, implies_true, and_true]
  and_intros
  all_goals exact ⟨encoded_of_encode rfl rfl, fun _ => rfl⟩

theorem immediateNopRows_run : ∀ r ∈ immediateNopRows, RowRuns (fun _ => skipByte) r := by
  simp only [immediateNopRows, List.forall_mem_cons, List.not_mem_nil, false_imp_iff, implies_true, and_true]
  and_intros
  all_goals exact ⟨encoded_of_encode rfl rfl, fun _ => rfl⟩

theorem nopRows_run (n : Byte) (nn : Word) : ∀ r ∈ nopRows n nn, RowRuns nopAddressed r := by
  simp only [nopRows, List.forall_mem_cons, List.not_mem_nil, false_imp_iff, implies_true, and_true]
  and_intros
  all_goals exact ⟨encoded_of_encode rfl rfl, fun _ => rfl⟩

/-- No addressed NOP has a pointer mode, so its address is found without a read. -/
theorem nopRows_resolve_state (n : Byte) (nn : Word) (s : State) :
    ∀ r ∈ nopRows n nn, (resolve r.mode s).state = s := by
  obtain ⟨hdirect, -⟩ := directModes s n nn
  exact fun r hr => hdirect r.mode (by revert r; simp [nopRows])

theorem nopAddressed_of_resolve_state {m : AddrMode} {s : State} (h : (resolve m s).state = s) :
    nopAddressed m s = { s with penalty := s.penalty + crossCost (.memory m) s } := by
  rw [nopAddressed, chargeCross_resolve, h]
  rfl

/-- Settles O37: the address of a NOP is resolved without a read, and its page cross is all that is charged. -/
theorem nopInstructions : Obligations.NopInstructions := by
  refine fun s n nn => ⟨eachCompletes_of_rowRuns impliedNopRows_run fun _ => rfl,
    eachCompletes_of_rowRuns immediateNopRows_run fun _ => rfl, fun r hr => ?_⟩
  have hrun := nopRows_run n nn r hr
  exact ⟨hrun.encoded, nopAddressed r.mode s, hrun.exec s,
    nopAddressed_of_resolve_state (nopRows_resolve_state n nn s r hr)⟩

end Sys2Proof.Machine

namespace Sys2Proof.Machine

open Sys2Proof.Claims

/-! ### Composites (spec 47_illegal R240 to R243, R246, R247) -/

theorem compositeRows_run (n : Byte) (nn : Word) :
    (∀ r ∈ sloRows n nn, RowRuns shiftLeftOr r) ∧ (∀ r ∈ rlaRows n nn, RowRuns rotateLeftAnd r) ∧
      (∀ r ∈ sreRows n nn, RowRuns shiftRightEor r) ∧ (∀ r ∈ rraRows n nn, RowRuns rotateRightAdd r) ∧
      (∀ r ∈ dcpRows n nn, RowRuns decrementCompare r) ∧ ∀ r ∈ iscRows n nn, RowRuns incrementSubtract r := by
  simp only [sloRows, rlaRows, sreRows, rraRows, dcpRows, iscRows, List.forall_mem_cons, List.not_mem_nil, false_imp_iff,
    implies_true, and_true]
  and_intros
  all_goals exact ⟨encoded_of_encode rfl rfl, fun _ => rfl⟩

theorem incOnly_eq_ofNat : incOnly = fun m p => (BitVec.ofNat 8 ((m.toNat + 1) % 256), p) := by
  funext m p
  rw [incOnly, byte_add_one_eq_ofNat]

theorem decOnly_eq_ofNat : decOnly = fun m p => (BitVec.ofNat 8 ((m.toNat + 255) % 256), p) := by
  funext m p
  rw [decOnly, byte_sub_one_eq_ofNat]

/-- The frame of a stored byte says nothing of A, the flags and the penalty. -/
theorem storesByte_withResult {s u t : State} {ea : Word} {v : Byte} (h : StoresByte s u t ea v) (a : Byte) (p : Status)
    (penalty : Nat) : StoresByte s u { t with a := a, p := p, penalty := penalty } ea v := by
  obtain ⟨hwritten, hcell, hdiscarded, houtside, hdevice, hmemory, hdraws⟩ := h
  have hstore (hs : NoStore s t) : NoStore s { t with a := a, p := p, penalty := penalty } :=
    ⟨hs.bytes, hs.memories, hs.notifications⟩
  exact ⟨hwritten, hcell, fun hd => (hdiscarded hd).imp_left hstore, houtside,
    fun k r w hr => (hdevice k r w hr).imp_left hstore, hmemory, hdraws⟩

theorem modifyOperand_memory_value (m : AddrMode) (core : Byte → Status → Byte × Status) (s : State) :
    (modifyOperand (.memory m) core s).1 = (core (modifyRead m s).1 s.p).1 := by
  simp [modifyOperand, modifyRead]

/-- Rows compose when their meaning modifies their operand by `core`, and then gives A and the flags by `finish`, from the
new byte and the flags that `core` left. -/
theorem composes_of_rowRuns {rows : List (Row AddrMode)} {f : AddrMode → State → State} {s : State}
    {core : Byte → Status → Byte × Status} {finish : Byte → Byte → Status → Byte × Status} {cost : Nat}
    (hrows : ∀ r ∈ rows, RowRuns f r)
    (hf : ∀ m, f m s = let r := modifyOperand (.memory m) core s
      { r.2 with a := (finish r.2.a r.1 r.2.p).1, p := (finish r.2.a r.1 r.2.p).2, penalty := r.2.penalty + cost }) :
    Composes rows s core finish cost := by
  refine eachCompletes_of_rowRuns hrows fun m => ?_
  rw [hf m]
  dsimp only
  rw [modifyOperand_memory_value, modifyOperand_memory_a, modifyOperand_memory_p, ← modifyRead, modifyOperand_penalty]
  exact ⟨by constructor <;> simp, rfl, by constructor <;> simp, rfl,
    storesByte_withResult (modifyOperand_storesByte m core s) _ _ _⟩

/-- A modify whose core leaves D alone leaves the decimal cost what it was. -/
theorem decimalCost_modifyOperand {core : Byte → Status → Byte × Status} (hd : ∀ m p, (core m p).2.d = p.d)
    (m : AddrMode) (s : State) : decimalCost (modifyOperand (.memory m) core s).2.p = decimalCost s.p := by
  rw [decimalCost, modifyOperand_memory_p, hd]
  rfl

/-- The second operation of SLO, RLA and SRE: a byte goes to A, and by value to N and Z. -/
theorem setA_setNZ_eq_flagsNZ (s : State) (v : Byte) : (s.setA v).setNZ v = { s with a := v, p := flagsNZ s.p v } :=
  State.setNZ_eq_flagsNZ (s.setA v) v

/-- Settles O26: each row modifies its operand by a core that is the rule by value, and its second operation takes the byte
and the flags the core left. -/
theorem compositeInstructions : Obligations.CompositeInstructions := by
  intro s n nn
  rw [← aslCore_eq_aslRule, ← rolCore_eq_rolRule, ← lsrCore_eq_lsrRule, ← rorCore_eq_rorRule, ← decOnly_eq_ofNat,
    ← incOnly_eq_ofNat]
  obtain ⟨hslo, hrla, hsre, hrra, hdcp, hisc⟩ := compositeRows_run n nn
  refine ⟨composes_of_rowRuns hslo fun _ => setA_setNZ_eq_flagsNZ _ _,
    composes_of_rowRuns hrla fun _ => setA_setNZ_eq_flagsNZ _ _,
    composes_of_rowRuns hsre fun _ => setA_setNZ_eq_flagsNZ _ _, composes_of_rowRuns hrra fun _ => ?rra,
    composes_of_rowRuns hdcp fun _ => ?dcp, composes_of_rowRuns hisc fun _ => ?isc⟩
  case rra =>
    rw [rotateRightAdd, State.add_eq, decimalCost_modifyOperand fun _ _ => rfl]
  case dcp =>
    rw [decrementCompare, Status.compare_eq_compareFlags]
    rfl
  case isc =>
    rw [incrementSubtract, State.sub_eq, decimalCost_modifyOperand fun _ _ => rfl]

/-! ### Immediate composites (spec 47_illegal R248 to R251) -/

theorem ancCore_eq_flagsNZ (a m : Byte) (p : Status) :
    ancCore a m p = (a &&& m, { flagsNZ p (a &&& m) with c := (a &&& m).getLsbD 7 }) := by
  rw [ancCore, Status.setNZ_eq_flagsNZ]

theorem alrCore_eq_lsrRule (a m : Byte) (p : Status) : alrCore a m p = lsrRule (a &&& m) p :=
  congrFun₂ lsrCore_eq_lsrRule (a &&& m) p

theorem arrCore_eq_flagsNZ (a m : Byte) (p : Status) : arrCore a m p =
    let r : Byte := BitVec.ofNat 8 ((a &&& m).toNat / 2 + 128 * p.c.toNat)
    (r, { flagsNZ p r with c := r.getLsbD 6, v := r.getLsbD 6 ^^ r.getLsbD 5 }) := by
  simp only [arrCore, byte_shiftRight_or_flagBit, Status.setNZ_eq_flagsNZ]

/-- SBX compares A and X with its operand, and keeps the difference. -/
theorem sbxCore_eq_compareFlags (a x m : Byte) (p : Status) :
    sbxCore a x m p = (BitVec.ofInt 8 ((a &&& x).toNat - m.toNat), compareFlags p (a &&& x) m) := by
  rw [← byte_sub_eq_ofInt, ← Status.compare_eq_compareFlags]
  rfl

/-- An instruction that gives A and the flags by a core of its operand byte, encoded by its own bytes at its own opcode's base
cost. -/
theorem gives_of_exec_eq_immediateCore {i : Instr} {bytes : List Byte} {cycles : Nat} {s : State} {n : Byte}
    {core : Byte → Byte → Status → Byte × Status} {w : Byte × Status} (hbytes : encode i = bytes)
    (hcycles : baseCycles i.opcode = cycles) (hexec : exec i s = .next (immediateCore core n s))
    (hcore : core s.a n s.p = w) : Gives i bytes cycles s { s with a := w.1, p := w.2 } := by
  subst hcore
  exact ⟨encoded_of_encode hbytes hcycles, hexec⟩

/-- Settles O27: each is one write of its register and of P, by a core whose result is the rule's by value; no core reads D. -/
theorem immediateComposites : Obligations.ImmediateComposites := by
  intro s n
  have hanc := ancCore_eq_flagsNZ s.a n s.p
  exact ⟨⟨gives_of_exec_eq_immediateCore rfl rfl rfl hanc, gives_of_exec_eq_immediateCore rfl rfl rfl hanc⟩,
    gives_of_exec_eq_immediateCore rfl rfl rfl (alrCore_eq_lsrRule s.a n s.p),
    gives_of_exec_eq_immediateCore rfl rfl rfl (arrCore_eq_flagsNZ s.a n s.p), encoded_of_encode rfl rfl,
    congrArg (fun w : Byte × Status => Host.Outcome.next ((s.setX w.1).setP w.2)) (sbxCore_eq_compareFlags s.a s.x n s.p)⟩

/-! ### The unstable slots (spec 47_illegal R255) -/

theorem unstable_of_nop {cfg : Config} (h : cfg.unstablePolicy = .nop) (t : State) : unstable cfg t = .next t := by
  rw [unstable, h]

theorem unstable_of_refuse {cfg : Config} (h : cfg.unstablePolicy = .refuse) (t : State) :
    unstable cfg t = .refused .unstableSlot := by
  rw [unstable, h]

/-- The row is encoded as it says and is an unstable slot, which `f` takes past its operand. -/
structure RowUnstable {Mode : Type} (f : Mode → State → State) (r : Row Mode) : Prop where
  encoded : Encoded r.instr r.bytes r.cycles
  exec : ∀ s, exec r.instr s = unstable s.cfg (f r.mode s)

theorem unstableImmediateRows_unstable : ∀ r ∈ unstableImmediateRows, RowUnstable (fun _ => skipByte) r := by
  simp only [unstableImmediateRows, List.forall_mem_cons, List.not_mem_nil, false_imp_iff, implies_true, and_true]
  and_intros
  all_goals exact ⟨encoded_of_encode rfl rfl, fun _ => rfl⟩

theorem unstableRows_unstable (n : Byte) (nn : Word) :
    ∀ r ∈ unstableRows n nn, RowUnstable (fun m s => (resolve m s).state) r := by
  simp only [unstableRows, List.forall_mem_cons, List.not_mem_nil, false_imp_iff, implies_true, and_true]
  and_intros
  all_goals exact ⟨encoded_of_encode rfl rfl, fun _ => rfl⟩

section
variable {Mode : Type} {rows : List (Row Mode)} {f : Mode → State → State} {s : State}

/-- Under the nop policy, unstable slots answer the state past their operand. -/
theorem eachCompletes_of_rowUnstable {P : Mode → State → Prop} (hrows : ∀ r ∈ rows, RowUnstable f r)
    (hnop : s.cfg.unstablePolicy = .nop) (hf : ∀ mode, P mode (f mode s)) : EachCompletes rows s P :=
  fun r hr => ⟨(hrows r hr).encoded, f r.mode s, ((hrows r hr).exec s).trans (unstable_of_nop hnop _), hf r.mode⟩

/-- Under the refuse policy, unstable slots are refused by name. -/
theorem exec_refused_of_rowUnstable (hrows : ∀ r ∈ rows, RowUnstable f r) (hrefuse : s.cfg.unstablePolicy = .refuse) :
    ∀ r ∈ rows, exec r.instr s = .refused .unstableSlot :=
  fun r hr => ((hrows r hr).exec s).trans (unstable_of_refuse hrefuse _)

end

/-- Finding an effective address changes nothing but what the pointer reads do at the peripherals. -/
theorem resolve_state_frame (m : AddrMode) (s : State) :
    RegsAre (resolve m s).state s.a s.x s.y s.sp s.pc ∧ (resolve m s).state.p = s.p ∧
      (resolve m s).state.penalty = s.penalty ∧ HiddenKept s (resolve m s).state ∧
      OnlyRead s (resolve m s).state (resolve m s).state :=
  ⟨by constructor <;> simp, resolve_p m s, resolve_penalty m s, by constructor <;> simp,
    noStore_of_memories (resolve_memories m s) (resolve_notifications m s) (resolve_cfg m s), rfl, rfl⟩

/-- Settles O38: every unstable slot passes its operand and then asks the policy. -/
theorem unstableSlots : Obligations.UnstableSlots := by
  intro s n nn
  have himmediate := unstableImmediateRows_unstable
  have haddressed := unstableRows_unstable n nn
  exact ⟨fun hnop => ⟨eachCompletes_of_rowUnstable himmediate hnop fun _ => rfl,
      eachCompletes_of_rowUnstable haddressed hnop fun m => resolve_state_frame m s⟩,
    fun hrefuse => ⟨exec_refused_of_rowUnstable himmediate hrefuse, exec_refused_of_rowUnstable haddressed hrefuse⟩, rfl⟩

end Sys2Proof.Machine

namespace Sys2Proof.Machine

open Sys2Proof.Claims

/-! ### Completion of every instruction (spec 60_exceptions R270, 47_illegal R255) -/

/-- Every meaning answers a next state, but that of the unstable slots, which asks the policy. -/
theorem ran_next_or_unstable {op : Byte} {s : State} {o : Host.Outcome State Fault Refusal} (r : Ran op s o) :
    (∃ t, o = .next t) ∨ op ∈ unstableOpcodes ∧ ∃ t, o = unstable s.cfg t := by
  cases r
  case unstable m h =>
    exact .inr ⟨(show [0x93, 0x9B, 0x9C, 0x9E, 0x9F, 0xBB] ⊆ unstableOpcodes by decide) h, _, rfl⟩
  case unstableImmediate h => exact .inr ⟨(show [0x8B, 0xAB] ⊆ unstableOpcodes by decide) h, _, rfl⟩
  all_goals exact .inl ⟨_, rfl⟩

theorem exec_next_of_stable {i : Instr} (h : i.opcode ∉ unstableOpcodes) (s : State) : ∃ t, exec i s = .next t :=
  (ran_next_or_unstable (exec_ran i s)).resolve_right fun ⟨hop, _⟩ => h hop

theorem exec_next_of_nop (i : Instr) {s : State} (hnop : s.cfg.unstablePolicy = .nop) : ∃ t, exec i s = .next t := by
  obtain hnext | ⟨-, t, ht⟩ := ran_next_or_unstable (exec_ran i s)
  · exact hnext
  · exact ⟨t, ht.trans (unstable_of_nop hnop t)⟩

/-- Under the nop policy the CPU's step ends in each of its three cases: jammed, an IRQ entry, an instruction. -/
theorem cpuStep_next_of_nop {s : State} (hnop : s.cfg.unstablePolicy = .nop) : ∃ t c, cpuStep s = .next (t, c) := by
  cases hj : s.jammed with
  | true => exact ⟨s, 0, cpuStep_of_jammed hj⟩
  | false =>
    cases hi : irqTaken s with
    | true => exact ⟨_, _, cpuStep_of_irqTaken hj hi⟩
    | false =>
      have hfetched : (fetchInstr (s.setPenalty 0)).2.cfg.unstablePolicy = .nop := by
        rw [fetchInstr_cfg, setPenalty_cfg, hnop]
      obtain ⟨t, ht⟩ := exec_next_of_nop (fetchInstr (s.setPenalty 0)).1 hfetched
      exact ⟨t, _, cpuStep_of_exec hj hi rfl ht⟩

/-- Settles O8: only the unstable slots ask the policy, and nothing else of a step can end without a next state. -/
theorem everyInstructionCompletes : Obligations.EveryInstructionCompletes := by
  refine ⟨fun i s h => exec_next_of_stable h s, fun i s hnop => exec_next_of_nop i hnop, fun s hnop => ?_, rfl⟩
  obtain ⟨t, c, h⟩ := cpuStep_next_of_nop hnop
  exact ⟨computerTick c t, step_of_cpuStep h⟩

/-! ### The count and the ticks of a step (spec 60_exceptions R279) -/

/-- A peripheral receives its rate's ticks, and none where no rate is listed (log entry 17). -/
theorem tickAll_getElem? (c k : Nat) (rates : List Nat) (ps : List Peripheral) :
    (tickAll c rates ps)[k]? = (ps[k]?).map fun p => ⟨p.ticks + c * (rates[k]?).getD 0, p.accesses⟩ := by
  induction rates generalizing ps k with
  | nil => simp [tickAll]
  | cons rate rates ih =>
    cases ps with
    | nil => rfl
    | cons p ps =>
      cases k with
      | zero => rfl
      | succ k => simpa [tickAll] using ih k ps

/-- Settles O5: the Computer's part of a step is its count and `tickAll`, whose entries `tickAll_getElem?` gives. -/
theorem stepCountsCycles : Obligations.StepCountsCycles := by
  refine ⟨fun s u c h => ⟨tickAll c u.cfg.ticksPerCycle u.peripherals, step_of_cpuStep h, tickAll_length _ _ _, ?_, ?_⟩,
    fun s r h => step_of_cpuStep_refused h, rfl⟩
  · intro k p rate hp hrate
    simp [tickAll_getElem?, hp, hrate]
  · intro k p hp hrate
    simp [tickAll_getElem?, hp, hrate]

/-! ### The return from an interrupt entry (spec 60_exceptions R276) -/

/-- The byte of P an entry pushes comes back as every flag, with B cleared (spec 45_control R224). -/
theorem ofPulled_toByte (p : Status) : Status.ofPulled p.toByte = { p with b := false } := by
  obtain ⟨n, v, b, d, i, z, c⟩ := p
  revert n v b d i z c
  decide

/-- Where the three stack bytes are writable memory, the three pulls of RTI find P, PCL and PCH as an entry pushed them. -/
theorem returnFromInterrupt_of_entered {b : Bool} {ret : Word} {s u : State} (h : Entered b ret s u)
    (hready : stackReady3 s = true) :
    returnFromInterrupt u = ((u.setSp s.sp).setP { s.p with b := false }).setPc ret := by
  have hsp : u.sp = s.sp - 3 := h.regs.sp
  have hstatus : pull u = (Status.toByte { s.p with b := b }, u.setSp (s.sp - 2)) :=
    pull_of_peek (by rw [hsp]; bv_omega) (h.status hready)
  have hpcl : pull (u.setSp (s.sp - 2)) = (loByte ret, u.setSp (s.sp - 1)) :=
    pull_of_peek (show s.sp - 2 + 1 = s.sp - 1 by bv_omega) (h.pcl hready)
  have hpch : pull (u.setSp (s.sp - 1)) = (hiByte ret, u.setSp s.sp) :=
    pull_of_peek (BitVec.sub_add_cancel s.sp 1) (h.pch hready)
  simp only [returnFromInterrupt_eq, hstatus, hpcl, hpch, mkWord_hiByte_loByte, ofPulled_toByte]

/-- Settles O34: BRK enters with the address past its signature byte, and RTI returns from the entry. -/
theorem brkThenRti : Obligations.BrkThenRti := by
  intro s hready
  have hentered := entered_interruptEntry true (s.pc + 1) s
  refine ⟨interruptEntry true (s.setPc (s.pc + 1)), rfl, ?_, _, rfl, ?_⟩
  · rw [hentered.p]
  · rw [returnFromInterrupt_of_entered hentered hready]
    refine ⟨?_, by simp⟩
    constructor <;> simp

/-! ### Taking an IRQ (spec 60_exceptions R272, R274, R275) -/

theorem irqTaken_iff {s : State} : irqTaken s = true ↔ s.cfg.hasIrq = true ∧ s.irq = true ∧ s.p.i = false := by
  simp [irqTaken, and_assoc]

/-- An interrupt entry sets I, which masks the next IRQ (spec 60_exceptions R275). -/
theorem irqTaken_interruptEntry (b : Bool) (s : State) : irqTaken (interruptEntry b s) = false := by
  simp [irqTaken]

/-- Settles O35: a step that is not jammed and takes an IRQ is the interrupt entry at PC. -/
theorem irqEntry : Obligations.IrqEntry :=
  ⟨fun _ => irqTaken_iff,
    fun s hj hi => ⟨interruptEntry false s, cpuStep_of_irqTaken hj hi, entered_interruptEntry false s.pc s,
      irqTaken_interruptEntry false s⟩,
    fun _ hj _ => cpuStep_of_jammed hj, rfl, rfl⟩

/-! ### Reset (spec 70_reset_and_hazards R290, R292) -/

theorem loadWord_setSp (s : State) (v : Byte) (addr : Word) :
    loadWord (s.setSp v) addr = ((loadWord s addr).1, (loadWord s addr).2.setSp v) := by
  simp only [loadWord, load_setSp]

/-- `reset()` is the vector's two reads, and then register writes. -/
theorem applyReset_eq (s : State) : applyReset s =
    { (((loadWord s 0xFFFC).2.setSp 0xFF).setP { s.p with i := true, d := false }).setPc (loadWord s 0xFFFC).1 with
      jammed := false } := by
  simp only [applyReset, loadWord_setP, loadWord_setSp]

/-- Settles O53: the fields of `applyReset_eq`, of which the two reads of the vector change no register or tick. -/
theorem resetOperation : Obligations.ResetOperation := by
  intro s
  dsimp only
  rw [applyReset_eq]
  refine ⟨?_, rfl, rfl, by simp, by simp, by simp, by simp, by simp, ?_, ?_⟩
  · constructor <;> simp
  · exact ⟨noStore_of_memories (by simp) (by simp) (by simp), rfl, rfl⟩
  · exact ((State.Evolves.refl s).loadWord 0xFFFC).ticks

/-- Settles O54: the reset state is `reset()` of one fixed state, evaluated; construction puts each value where it is given. -/
theorem resetState : Obligations.ResetState :=
  ⟨by decide, fun _ _ _ _ => ⟨rfl, rfl, rfl, ⟨rfl, rfl, rfl, rfl, rfl⟩, rfl, rfl, rfl⟩, rfl, rfl, rfl, rfl⟩

/-! ### Loading a ROM image (spec 70_reset_and_hazards R296) -/

/-- Copying an image changes nothing of a Memory but its cells. -/
theorem copyBytes_frame (bytes : List Byte) (m : Memory) (i : Nat) :
    (copyBytes m i bytes).name = m.name ∧ (copyBytes m i bytes).cap = m.cap ∧
      (copyBytes m i bytes).readOnly = m.readOnly ∧ (copyBytes m i bytes).observers = m.observers := by
  induction bytes generalizing m i with
  | nil => exact ⟨rfl, rfl, rfl, rfl⟩
  | cons v vs ih =>
    rw [copyBytes]
    split
    · exact ih (m.put i v) (i + 1)
    · exact ⟨rfl, rfl, rfl, rfl⟩

/-- From the offset of the copy on, a cell holds the image's byte while there is one; every other cell is as it was. -/
theorem copyBytes_load (bytes : List Byte) {m : Memory} (hwf : m.wf = true) (i : Nat) {j : Nat} (hj : j < m.cap) :
    (copyBytes m i bytes).load j = if i ≤ j then (bytes[j - i]?).getD (m.load j) else m.load j := by
  induction bytes generalizing m i with
  | nil => simp [copyBytes]
  | cons v vs ih =>
    by_cases hi : i < m.cap
    · have hput : (m.put i v).load j = if j = i then v else m.load j := by
        rw [Memory.load_put hwf, Nat.mod_eq_of_lt hj, Nat.mod_eq_of_lt hi]
      rw [copyBytes, if_pos hi, ih (Memory.put_wf hwf i v) (i + 1) hj, hput]
      obtain hlt | rfl | hgt := Nat.lt_trichotomy j i
      · simp [hlt.ne, show ¬ i ≤ j by omega, show ¬ i + 1 ≤ j by omega]
      · simp
      · simp [hgt.ne', hgt.le, show i + 1 ≤ j from hgt, show j - i = j - (i + 1) + 1 by omega]
    · rw [copyBytes, if_neg hi, if_neg (by omega)]

theorem loadRom_eq_set {s : State} {k : Nat} {m : Memory} (hk : s.memories[k]? = some m) (bytes : List Byte) :
    loadRom s k bytes = { s with memories := s.memories.set k (copyBytes m 0 bytes) } := by
  simp [loadRom, List.modify_eq_set_getElem?, hk]

/-- Settles O55: the Memory is replaced by the image copied into it from offset 0. -/
theorem loadRomCopiesTheImage : Obligations.LoadRomCopiesTheImage := by
  intro s k m bytes hk hwf
  obtain ⟨hname, hcap, hreadOnly, hobservers⟩ := copyBytes_frame bytes m 0
  refine ⟨copyBytes m 0 bytes, loadRom_eq_set hk bytes, copyBytes_wf bytes m hwf 0, hname, hcap, hreadOnly, hobservers,
    fun i hi => ?_⟩
  rw [copyBytes_load bytes hwf 0 hi, if_pos (Nat.zero_le i), Nat.sub_zero]

end Sys2Proof.Machine
